-- ==== Sys2Proof/Word.lean ====
section
/-! DEFINITION. The word types of the block (00_scope.md R10, R11). Byte-order helpers stand in
Sys2Proof/Machine/Bytes.lean. -/

namespace Sys2Proof

/-- An 8-bit byte (R10). -/
abbrev Byte := BitVec 8

/-- A 32-bit register or command word, or an offset in the register space (10_state.md R21, R24). -/
abbrev Word := BitVec 32

/-- A client id: 64 bits (10_state.md R41). -/
abbrev Cid := BitVec 64

/-- A 256-bit number: a secret scalar or a coordinate (R12, R40). -/
abbrev Num256 := BitVec 256

/-- A byte string (R11). -/
abbrev Bytes := List Byte

end Sys2Proof
end

