-- ==== Sys2Proof/Config.lean ====
section
/-! DEFINITION. What an implementation of the block fixes: the constants of 00_scope.md R7, the open
parameters of R8, and the values no rule fixes (free values: constants without a body, so that no
proof can know what they are). -/

namespace Sys2Proof

/-- The open parameters of R8, which a model takes as an argument, and the size of the region the platform decodes
for the block, which 20_memory.md R71 leaves to the platform beside `BASE`. -/
structure Params where
  /-- `BASE`, the bus address of the register block (log 16). -/
  base : Nat
  /-- The number of bus addresses from `BASE` on that the platform decodes for the block (R71; log 7). -/
  regionSize : Nat
  /-- `LMEM_SIZE`, the number of bytes of LMEM. -/
  lmemSize : Nat
  /-- `NSESS`, the number of entries of the session table. -/
  nsess : Nat
deriving DecidableEq, Repr

/-- The constraints R8 puts on the parameters; the registers and the LMEM window (10_state.md R24) lie in the
decoded region. -/
def Params.legal (p : Params) : Bool :=
  decide (2048 ≤ p.lmemSize) && decide (p.lmemSize < 2 ^ 31) && decide (1 ≤ p.nsess) &&
    decide (0x10000 + p.lmemSize ≤ p.regionSize)

/-- The defaults R8 names (`LMEM_SIZE = 16384`, `NSESS = 2`), with `BASE` 0 and a decoded region that ends where
the LMEM window does. DESIGN CHOICE (logs 2, 16): `State.reset` takes them; every statement over all states is about
every value. -/
def Params.default : Params := { base := 0, regionSize := 0x10000 + 16384, lmemSize := 16384, nsess := 2 }

/-- `AES_BLOCK`, and the length of an AES key `AES_KEY_BYTES` (R7). -/
abbrev Config.aesBlock : Nat := 16
/-- `SS_BYTES` (R7). -/
abbrev Config.ssBytes : Nat := 32
/-- `PUB_BYTES` (R7). -/
abbrev Config.pubBytes : Nat := 64
/-- `DG_MAX` (R7): the largest datagram. -/
abbrev Config.dgMax : Nat := 1024
/-- `RX_MAX` (R7): the longest reply the sender reads. -/
abbrev Config.rxMax : Nat := 66
/-- The longest chunk of a data frame: its length travels in 2 bytes (30_encoding.md R102). -/
abbrev Config.chunkMax : Nat := 65535
/-- `CHUNK_DEFAULT` (R7). -/
def Config.chunkDefault : Word := 4096
/-- `TIMEOUT_DEFAULT` (R7) in milliseconds (10_state.md R29). -/
def Config.timeoutDefault : Word := 1000

/-- FREE VALUE (log 4). The `k`-th draw of 10_state.md R48, before it is brought into `{1, …, n-1}`:
"any element of that set, chosen by no rule". -/
opaque Config.draw : Nat → Nat

/-- FREE VALUE (log 3). What byte `a` of LMEM holds after the `e`-th hardware reset until it is written
(70_reset_and_hazards.md R372: any value, the same each time it is read). -/
opaque Config.lmemByte : Nat → Nat → Byte

/-- FREE VALUE (log 5). What the `k`-th use of a free value reads at file offset `o` where the file
provider, against its duty (R383), holds no byte. -/
opaque Config.fileByte : Nat → Nat → Byte

/-- FREE VALUE (log 11). The coordinates used where a rule would encode the point at infinity, which
"has no encoding" (43_ecdh_p256.md R206) and, by R205, never occurs. -/
opaque Config.infinityPoint : Nat × Nat

end Sys2Proof
end

