-- ==== Sys2Proof/Syntax.lean ====
section
/-! DEFINITION. The syntax: one constructor of `Instr` per row of spec/opcode_table.json; the inputs the
other agents present to the block; the records the block puts out; the wire forms an encoding has. -/

namespace Sys2Proof

/-- One constructor per row of the table (30_encoding.md R92, R110). A command takes its operands from
the `ARG` registers at the moment `CMD` is written (R76, R93), so its constructor has none. -/
inductive Instr where
  -- commands, format CMD32 (R92)
  | nop
  | crc32
  | bfpack
  | bfunpack
  | bfclear
  | aesenc
  | aesencS
  | aesdec
  | aesdecS
  | ecdhgen
  | ecdhderive
  | ecdhdiscard
  | xferstart
  | xferabort
  | schreset
  | sreset
  -- input events (10_state.md R44)
  /-- `RxReply(R)`: what one read of the transport returned (R271). -/
  | rxReply (r : Bytes)
  /-- `RxTimeout`: the read timed out (R277). -/
  | rxTimeout
  /-- `DgIn(cid, D)`: one datagram from a client (R233). -/
  | dgIn (cid : Cid) (d : Bytes)
  -- frames and the close on TX (R101 to R105, R44)
  /-- The header frame of a file of `size` bytes (R101). -/
  | hdrFrame (size : Word)
  /-- The data frame of one chunk (R102). -/
  | dataFrame (chunk : Bytes)
  /-- The trailer frame (R103). -/
  | trailerFrame
  /-- The final acknowledgement (R105). -/
  | finalAck
  /-- `TxClose`: close the connection (R44). -/
  | txClose
  -- reply formats on RX (R106, R107)
  /-- The reply that is exactly "OK" (R106). -/
  | okReply
  /-- The reply "OK" followed by `h` (R107). -/
  | trailerReply (h : Bytes)
  -- datagram formats on DG (R98 to R100)
  /-- A hello: "csk:", then the two coordinates of the client's key (R98). -/
  | helloDatagram (cid : Cid) (x y : Num256)
  /-- The reply to a hello: "ssk:", then the two coordinates of the block's key (R99). -/
  | helloReplyDatagram (cid : Cid) (x y : Num256)
  /-- An encrypted payload (R100). -/
  | cipherDatagram (cid : Cid) (d : Bytes)
  -- FILE and PL (R44)
  /-- `FileRead(offset, n)` (R44, R63). -/
  | fileRead (offset n : Word)
  /-- `Payload(cid, bytes)`: one decrypted command line (R44). -/
  | payload (cid : Cid) (d : Bytes)
deriving DecidableEq, Repr

/-- One operation another agent presents to the block (R16, R17): a host access at a bus address, which is `BASE`
and a byte offset (10_state.md R24, 20_memory.md R61, R67; log 16), a port event (R44), or what the environment
fixes (a draw, R48; the source file, R383; a hardware reset, R371). -/
inductive Input where
  | write32 (addr : Nat) (v : Word)
  | write16 (addr : Nat) (v : BitVec 16)
  | write8 (addr : Nat) (b : Byte)
  | read32 (addr : Nat)
  | read16 (addr : Nat)
  | read8 (addr : Nat)
  | rx (r : Bytes)
  | rxTimeout
  | dg (cid : Cid) (d : Bytes)
  /-- `draw d = value` (R109): fixes the next draw not yet fixed. -/
  | draw (d : Num256)
  /-- The file provider presents a source file (R63). -/
  | file (content : Bytes)
  | hwReset
deriving DecidableEq, Repr

/-- One record the block puts out (R13 `emit`, R44), or the value a host read returned (R37). -/
inductive Output where
  | tx (b : Bytes)
  | txClose
  /-- A read of the FILE port with the bytes it was answered with. -/
  | fileRead (offset n : Nat) (answer : Bytes)
  | dgOut (cid : Cid) (b : Bytes)
  | payload (cid : Cid) (b : Bytes)
  | hostRead32 (addr : Nat) (v : Word)
  | hostRead8 (addr : Nat) (b : Byte)
deriving DecidableEq, Repr

/-- What an instruction looks like at the block's interface: a word written to `CMD`, or a record of one
port (30_encoding.md R90, R96 to R107; 10_state.md R44). -/
inductive Wire where
  | command (w : Word)
  | rx (r : Bytes)
  | rxTimeout
  | dgIn (cid : Cid) (d : Bytes)
  | tx (b : Bytes)
  | txClose
  | dgOut (cid : Cid) (d : Bytes)
  | fileRead (offset n : Word)
  | payload (cid : Cid) (d : Bytes)
deriving DecidableEq, Repr

/-- Why a wire form is no instruction. -/
inductive Reject where
  /-- Command-word bits 31:9 are not 0 (R91). -/
  | reservedBits
  /-- The low byte is not an opcode of R92 (R91). -/
  | unassignedOpcode
  /-- Bit 8 is 1 on a command that takes no key (R91). -/
  | kselNotAllowed
  /-- The record is longer than its port allows (10_state.md R44). -/
  | recordTooLong
  /-- The bytes are none of the TX records the block builds (R101 to R105). -/
  | notAFrame
  /-- The bytes are not the hello reply (R99). -/
  | notAHelloReply
  /-- A file read of no byte or of more than 65535 (20_memory.md R63). -/
  | readLength
deriving DecidableEq, Repr

/-- The sixteen commands (R92). -/
def Instr.isCommand : Instr → Bool
  | .nop | .crc32 | .bfpack | .bfunpack | .bfclear | .aesenc | .aesencS | .aesdec | .aesdecS => true
  | .ecdhgen | .ecdhderive | .ecdhdiscard | .xferstart | .xferabort | .schreset | .sreset => true
  | .rxReply _ | .rxTimeout | .dgIn _ _ | .okReply | .trailerReply _ => false
  | .helloDatagram _ _ _ | .cipherDatagram _ _ => false
  | .hdrFrame _ | .dataFrame _ | .trailerFrame | .finalAck | .txClose => false
  | .helloReplyDatagram _ _ _ | .fileRead _ _ | .payload _ _ => false

/-- The port events that come in (R44), in their general and their special forms. -/
def Instr.isEvent : Instr → Bool
  | .rxReply _ | .rxTimeout | .dgIn _ _ | .okReply | .trailerReply _ => true
  | .helloDatagram _ _ _ | .cipherDatagram _ _ => true
  | .nop | .crc32 | .bfpack | .bfunpack | .bfclear | .aesenc | .aesencS | .aesdec | .aesdecS => false
  | .ecdhgen | .ecdhderive | .ecdhdiscard | .xferstart | .xferabort | .schreset | .sreset => false
  | .hdrFrame _ | .dataFrame _ | .trailerFrame | .finalAck | .txClose => false
  | .helloReplyDatagram _ _ _ | .fileRead _ _ | .payload _ _ => false

end Sys2Proof
end

