-- ==== Sys2Proof/Machine/State.lean ====
section
/-! DEFINITION. The state of the block (10_state.md R20): registers, hidden session, session table, LMEM;
beside it the model's own fields: the open parameters (R8), the pending operations of the other agents,
and the output trace (R45). State is plain data. -/

namespace Sys2Proof.Machine

/-- Completion codes (60_exceptions.md R341). Their numbers are `Code.byte` (Machine/Flags.lean). -/
inductive Code where
  | ok
  | errIllegalCmd
  | errAddr
  | errArg
  | errState
  | errCryptoPeerKey
  | errCryptoLen
  | errCryptoNoSession
  | errCryptoFull
deriving DecidableEq, Repr

/-- `XFER_STATUS.STATE` (10_state.md R30, 45_frame_transfer.md R262). -/
inductive XferState where
  | idle
  | waitHdrAck
  | waitChunkAck
  | waitTrailerReply
  | done
  | failed
deriving DecidableEq, Repr

/-- `XFER_STATUS.ERR` (10_state.md R30, 45_frame_transfer.md R266). -/
inductive XferErr where
  | none
  | error1
  | error2
  | error3
  | error4
  | timeout
  | aborted
deriving DecidableEq, Repr

/-- `SCH_CTRL.MODE` (10_state.md R33). -/
inductive SchMode where
  | off
  | psk
  | ecdh
deriving DecidableEq, Repr

/-- LMEM (20_memory.md R61) as the bytes written since the last hardware reset, by strictly rising
address. An address that is not listed holds no WRITTEN byte; what a read of it gives is `State.byteAt`
(Machine/Ops.lean). -/
abbrev Memory := List Host.Cell

/-- The canonical form: addresses strictly rising. (No entry can equal what an unlisted address holds,
which is no written byte.) -/
def Memory.wf : Memory → Bool
  | [] => true
  | [_] => true
  | (a, _) :: (b, y) :: rest => decide (a < b) && Memory.wf ((b, y) :: rest)

/-- `BF_REC_BASE`, `BF_MASK_BASE`, `BF_REC_SIZE` (10_state.md R26). -/
structure BfRegs where
  recBase : Word
  maskBase : Word
  recSize : Word
deriving DecidableEq, Repr

/-- The hidden ECDH session and its flags (10_state.md R27, R40). -/
structure EcdhSession where
  /-- `ECDH_D`, the secret scalar. -/
  d : Num256
  /-- `ECDH_Q`, 64 bytes. -/
  q : Bytes
  /-- `ECDH_SS`, 32 bytes. -/
  ss : Bytes
  keyValid : Bool
  ssValid : Bool
deriving DecidableEq, Repr

/-- The registers of the transfer unit (10_state.md R28 to R32). -/
structure Xfer where
  chunk : Word
  timeout : Word
  state : XferState
  err : XferErr
  size : Word
  off : Word
  last : Word
  /-- `XFER_HASH0` to `XFER_HASH7`. -/
  hash : Vector Word 8
deriving DecidableEq, Repr

/-- One valid entry of the session table (10_state.md R41): a client in `WAIT_PAYLOAD(key)`. -/
structure Session where
  cid : Cid
  /-- 16 bytes. -/
  key : Bytes
deriving DecidableEq, Repr

/-- The secure-channel unit (44_secure_channel.md R231). The table is the partial map from `cid` to `key`
that R41 allows, listed by rising `cid`; `NACTIVE` is its length. -/
structure Sch where
  mode : SchMode
  /-- `SCH_STATUS.LASTCODE` (10_state.md R34). -/
  last : Code
  /-- `SCH_PSK0` to `SCH_PSK3` (10_state.md R35). -/
  psk : Vector Word 4
  sess : List Session
deriving DecidableEq, Repr

/-- The model's own fields: what the other agents have presented and what the block has put out
(10_state.md R45). No field is state of the block. -/
structure Env where
  /-- Operations presented and not yet taken, oldest first. -/
  inputs : List Input
  /-- Draws fixed by `draw` inputs and not yet used, oldest first (R48, R109). -/
  draws : List Num256
  /-- The source file presented on the FILE port (R63). -/
  file : Bytes
  /-- How many free values have been used (log 4). -/
  freeCount : Nat
  /-- How many hardware resets LMEM has seen (log 3). -/
  lmemEpoch : Nat
  /-- The output trace, newest record last (R45). -/
  out : List Output
deriving DecidableEq, Repr

/-- The state of the block (10_state.md R20) with the model's own fields `params` and `env`. -/
structure State where
  params : Params
  /-- `STATUS.CODE` (R22, R25). -/
  code : Code
  arg0 : Word
  arg1 : Word
  arg2 : Word
  arg3 : Word
  res0 : Word
  res1 : Word
  bf : BfRegs
  ecdh : EcdhSession
  xfer : Xfer
  sch : Sch
  lmem : Memory
  env : Env
deriving DecidableEq, Repr

/-- Faults: none. "The block never stops, hangs or terminates its owner" (00_scope.md R18): every error is
a completion code and the next state is reached. No one raises a fault; a closed type without constructor
says so (log 14). -/
inductive Fault
deriving DecidableEq, Repr

/-- Refusals: the model gives no step, as the spec asks for an input that breaks an interface
precondition ("a model refuses (gives no step to) an input that breaks it", 10_state.md R44). All are safe:
nothing is claimed of what such an input does. -/
inductive Refusal where
  /-- An instruction without a meaning yet. Raised by `exec`'s arms only; there is no such arm. Safe. -/
  | notModelled (mnemonic : String)
  /-- A host access that is not part of the interface: not an aligned 32-bit register access and not a byte
  access to the LMEM window (20_memory.md R67), or outside `BASE` to `BASE + 0x10000 + LMEM_SIZE - 1`
  (93_implementation_defined.md U14; log 7). Raised by the step for `write32`, `read32`, `write16`, `read16`,
  `write8`, `read8`. Safe. -/
  | busAccess
  /-- An input record longer than its port allows (10_state.md R44). Raised by the events. Safe. -/
  | recordTooLong
  /-- An output record outside the bounds of its format: a data frame whose chunk is not 1 to 65535 bytes
  (30_encoding.md R102), a payload over 1024 bytes (10_state.md R44). The block never emits one. Raised by
  `DataFrame`, `Payload`. Safe. -/
  | outputBounds
  /-- A file read outside what 20_memory.md R63 allows (`1 <= n <= 65535`, `o + n <= XFER_SIZE`). The block
  never issues one. Raised by `FileRead`. Safe. -/
  | fileReadBounds
  /-- The source file changes during a transfer (70_reset_and_hazards.md R383, U15). Raised by the `file`
  input. Safe. -/
  | fileChanged
  /-- A draw outside `{1, …, n-1}` (10_state.md R48). Raised by the `draw` input. Safe. -/
  | drawRange
deriving DecidableEq, Repr

/-- The outcome of a step of the block. -/
abbrev Result := Host.Outcome State Fault Refusal

/-- An empty ECDH session (10_state.md R40). -/
def EcdhSession.empty : EcdhSession :=
  { d := 0, q := List.replicate 64 0, ss := List.replicate 32 0, keyValid := false, ssValid := false }

/-- The bit-field registers after reset (70_reset_and_hazards.md R370). -/
def BfRegs.reset : BfRegs := { recBase := 0, maskBase := 0, recSize := 0 }

/-- The transfer unit after reset (70_reset_and_hazards.md R370). -/
def Xfer.reset : Xfer :=
  { chunk := Config.chunkDefault, timeout := Config.timeoutDefault, state := .idle, err := .none,
    size := 0, off := 0, last := 0, hash := #v[0, 0, 0, 0, 0, 0, 0, 0] }

/-- The secure-channel unit after reset (70_reset_and_hazards.md R370). -/
def Sch.reset : Sch := { mode := .off, last := .ok, psk := #v[0, 0, 0, 0], sess := [] }

/-- The surroundings before anything has happened: nothing pending, nothing put out. DESIGN CHOICE (logs 1,
4, 5, 6): the model's own fields, to which the spec gives no reset value. -/
def Env.initial : Env :=
  { inputs := [], draws := [], file := [], freeCount := 0, lmemEpoch := 0, out := [] }

/-- The block after a hardware reset (70_reset_and_hazards.md R370), for given parameters and
surroundings; nothing of LMEM is known (R372). -/
def State.resetWith (p : Params) (e : Env) : State :=
  { params := p, code := .ok, arg0 := 0, arg1 := 0, arg2 := 0, arg3 := 0, res0 := 0, res1 := 0,
    bf := BfRegs.reset, ecdh := EcdhSession.empty, xfer := Xfer.reset, sch := Sch.reset, lmem := [],
    env := e }

/-- The machine right after a hardware reset (R370), with the default parameters of R8. -/
def State.reset : State := State.resetWith Params.default Env.initial

end Sys2Proof.Machine
end

