-- ==== Sys2Proof/Machine/Flags.lean ====
section
/-! DEFINITION. The flag-like state (10_state.md R46) as the numbers the host reads: completion codes and
the four status registers. The block has no arithmetic condition codes. -/

namespace Sys2Proof.Machine

/-- The number of a completion code (60_exceptions.md R341). -/
def Code.byte : Code → Byte
  | .ok => 0x00
  | .errIllegalCmd => 0x01
  | .errAddr => 0x02
  | .errArg => 0x03
  | .errState => 0x04
  | .errCryptoPeerKey => 0x10
  | .errCryptoLen => 0x11
  | .errCryptoNoSession => 0x12
  | .errCryptoFull => 0x13

/-- The number of a transfer state (10_state.md R30). -/
def XferState.num : XferState → BitVec 3
  | .idle => 0
  | .waitHdrAck => 1
  | .waitChunkAck => 2
  | .waitTrailerReply => 3
  | .done => 4
  | .failed => 5

/-- The number of a transfer error (10_state.md R30, 45_frame_transfer.md R266). -/
def XferErr.num : XferErr → BitVec 3
  | .none => 0
  | .error1 => 1
  | .error2 => 2
  | .error3 => 3
  | .error4 => 4
  | .timeout => 5
  | .aborted => 6

/-- The waiting states 1 to 3; the others are the resting states (45_frame_transfer.md R262). -/
def XferState.waiting : XferState → Bool
  | .waitHdrAck | .waitChunkAck | .waitTrailerReply => true
  | .idle | .done | .failed => false

/-- The number of a secure-channel mode (10_state.md R33). -/
def SchMode.num : SchMode → BitVec 2
  | .off => 0
  | .psk => 1
  | .ecdh => 2

/-- The mode a two-bit number stands for; 3 stands for none (10_state.md R33). -/
def schModeOf (m : BitVec 2) : Option SchMode :=
  if m = 0 then some .off else if m = 1 then some .psk else if m = 2 then some .ecdh else none

/-- `STATUS` (10_state.md R22, R25). -/
def State.statusWord (s : State) : Word := s.code.byte.setWidth 32

/-- `ECDH_STATUS` (10_state.md R27). -/
def State.ecdhStatusWord (s : State) : Word :=
  (BitVec.ofBool s.ecdh.ssValid ++ BitVec.ofBool s.ecdh.keyValid).setWidth 32

/-- `XFER_STATUS` (10_state.md R30): `ERR` at 6:4, bit 3 zero, `STATE` at 2:0. -/
def State.xferStatusWord (s : State) : Word :=
  (s.xfer.err.num ++ (0 : BitVec 1) ++ s.xfer.state.num).setWidth 32

/-- `NACTIVE` (10_state.md R34, R232): the number of entries of the session table. -/
def State.nactive (s : State) : Nat := s.sch.sess.length

/-- `SCH_STATUS` (10_state.md R34): `NACTIVE` (at most 255 shown) at 15:8, `LASTCODE` at 7:0. -/
def State.schStatusWord (s : State) : Word :=
  (BitVec.ofNat 8 (min s.nactive 255) ++ s.sch.last.byte).setWidth 32

/-- `SCH_CTRL` as read (10_state.md R33). -/
def State.schCtrlWord (s : State) : Word := s.sch.mode.num.setWidth 32

end Sys2Proof.Machine
end

