-- ==== Sys2Proof/Machine/Bytes.lean ====
section
/-! DEFINITION. Integer packing (00_scope.md R12), byte-string registers (10_state.md R36) and the ASCII
literals of the wire formats (R11). -/

namespace Sys2Proof.Machine

/-- `ToLE16(v)` (R12). -/
def toLE16 (v : BitVec 16) : Bytes := [v.extractLsb' 0 8, v.extractLsb' 8 8]

/-- `ToLE32(v)` (R12). -/
def toLE32 (v : Word) : Bytes :=
  [v.extractLsb' 0 8, v.extractLsb' 8 8, v.extractLsb' 16 8, v.extractLsb' 24 8]

/-- `LE32(B)` for the four bytes `b0` to `b3` (R12). -/
def word32 (b0 b1 b2 b3 : Byte) : Word := b3 ++ b2 ++ b1 ++ b0

/-- `LE32(B)` (R12), used with `|B| = 4` only; a missing byte counts as 0. -/
def le32 (b : Bytes) : Word := word32 (b.getD 0 0) (b.getD 1 0) (b.getD 2 0) (b.getD 3 0)

/-- `ToBE32(v)` (R12). No rule of the block uses it. -/
def toBE32 (v : Word) : Bytes :=
  [v.extractLsb' 24 8, v.extractLsb' 16 8, v.extractLsb' 8 8, v.extractLsb' 0 8]

/-- `BE32(B)` (R12), used with `|B| = 4` only; a missing byte counts as 0. Of the rules only R323 of
49_context_record_formats.md, host software, uses it. -/
def be32 (b : Bytes) : Word := word32 (b.getD 3 0) (b.getD 2 0) (b.getD 1 0) (b.getD 0 0)

/-- The 16-bit number of two little-endian bytes. -/
def half16 (b0 b1 : Byte) : BitVec 16 := b1 ++ b0

/-- `ToBE256(v)` (R12): byte `i` is `v[255-8i : 248-8i]`. -/
def toBE256 (v : Nat) : Bytes :=
  (List.range 32).map fun i => BitVec.ofNat 8 (v >>> (8 * (31 - i)))

/-- `BE256(B)` (R12): the first byte is the most significant. -/
def be256 (b : Bytes) : Nat := b.foldl (fun acc x => acc * 256 + x.toNat) 0

/-- `Zeros(n)` (R11). -/
def zeros (n : Nat) : Bytes := List.replicate n 0

/-- The byte string held in consecutive registers: four bytes each, little-endian, lowest index in the
lowest register (10_state.md R36). -/
def bytesOfRegs (rs : List Word) : Bytes := rs.flatMap toLE32

/-- Byte-wise exclusive or of two byte strings of one length (R10). -/
def xorBytes (a b : Bytes) : Bytes := List.zipWith (· ^^^ ·) a b

/-- "OK" (R11). -/
def okBytes : Bytes := [0x4F, 0x4B]
/-- "csk:" (R11). -/
def cskBytes : Bytes := [0x63, 0x73, 0x6B, 0x3A]
/-- "ssk:" (R11). -/
def sskBytes : Bytes := [0x73, 0x73, 0x6B, 0x3A]
/-- "check hash" (R11). -/
def checkHashBytes : Bytes := [0x63, 0x68, 0x65, 0x63, 0x6B, 0x20, 0x68, 0x61, 0x73, 0x68]

end Sys2Proof.Machine
end

