-- ==== Sys2Proof/Machine/P256.lean ====
section
/-! DEFINITION. NIST P-256 and Diffie-Hellman on it (43_ecdh_p256.md R201 to R208). The spec marks these
rules "from general knowledge, not in source" (U3): log 13. -/

namespace Sys2Proof.Machine

/-- `p` (R201). -/
def p256P : Nat := 0xFFFFFFFF00000001000000000000000000000000FFFFFFFFFFFFFFFFFFFFFFFF
/-- `a` (R201). -/
def p256A : Nat := 0xFFFFFFFF00000001000000000000000000000000FFFFFFFFFFFFFFFFFFFFFFFC
/-- `b` (R201). -/
def p256B : Nat := 0x5AC635D8AA3A93E7B3EBBD55769886BC651D06B0CC53B0F63BCE3C3E27D2604B
/-- `Gx` (R201). -/
def p256Gx : Nat := 0x6B17D1F2E12C4247F8BCE6E563A440F277037D812DEB33A0F4A13945D898C296
/-- `Gy` (R201). -/
def p256Gy : Nat := 0x4FE342E2FE1A7F9B8EE7EB4A7C0F9E162BCE33576B315ECECBB6406837BF51F5
/-- `n`, the order of `G` (R201). -/
def p256N : Nat := 0xFFFFFFFF00000000FFFFFFFFFFFFFFFFBCE6FAADA7179E84F3B9CAC2FC632551

/-- A point (R203): `none` is the point at infinity `O`. -/
abbrev Point := Option (Nat × Nat)

/-- `G` (R203). -/
def p256G : Point := some (p256Gx, p256Gy)

/-- `u + v`, reduced (R202). -/
def fAdd (u v : Nat) : Nat := (u + v) % p256P
/-- `u - v`, reduced (R202). -/
def fSub (u v : Nat) : Nat := (u + (p256P - v % p256P)) % p256P
/-- `u * v`, reduced (R202). -/
def fMul (u v : Nat) : Nat := u * v % p256P

/-- `b ^ e * acc` modulo `p` by squaring, over the low `fuel` bits of `e`. -/
def fPow : Nat → Nat → Nat → Nat → Nat
  | 0, _, _, acc => acc
  | fuel + 1, b, e, acc => fPow fuel (fMul b b) (e / 2) (if e % 2 = 1 then fMul acc b else acc)

/-- `inv(u) = u^(p-2) mod p` (R202). -/
def fInv (u : Nat) : Nat := fPow 256 u (p256P - 2) 1

/-- The chord or tangent case of `Add` with slope `l` (R204). -/
def addSlope (l x1 y1 x2 : Nat) : Point :=
  let x3 := fSub (fSub (fMul l l) x1) x2
  some (x3, fSub (fMul l (fSub x1 x3)) y1)

/-- `Add(P1, P2)` (R204). -/
def pointAdd : Point → Point → Point
  | none, q => q
  | some a, none => some a
  | some (x1, y1), some (x2, y2) =>
    if x1 = x2 then
      if (y1 + y2) % p256P = 0 then none
      else addSlope (fMul (fAdd (fMul 3 (fMul x1 x1)) p256A) (fInv (fMul 2 y1))) x1 y1 x2
    else addSlope (fMul (fSub y2 y1) (fInv (fSub x2 x1))) x1 y1 x2

/-- Double and add over the low `fuel` bits of `k`, most significant first (R205). -/
def pointMulBits (k : Nat) (pt : Point) : Nat → Point → Point
  | 0, acc => acc
  | fuel + 1, acc =>
    let dbl := pointAdd acc acc
    pointMulBits k pt fuel (if k.testBit fuel then pointAdd dbl pt else dbl)

/-- `Mul(k, P)` for `k < 2^256` (R205). -/
def pointMul (k : Nat) (pt : Point) : Point := pointMulBits k pt 256 none

/-- The coordinates of a point. `O` has no encoding (R206): there the free value of log 11 stands. -/
def pointCoords : Point → Nat × Nat
  | some xy => xy
  | none => Config.infinityPoint

/-- `EncodePoint` (R206). -/
def encodePoint (pt : Point) : Bytes := toBE256 (pointCoords pt).1 ++ toBE256 (pointCoords pt).2

/-- `DecodePoint(B)` for 64 bytes (R206): a pair that may or may not be a point. -/
def decodePoint (b : Bytes) : Nat × Nat := (be256 (b.take 32), be256 (b.drop 32))

/-- The curve equation (R203, R207 (c)). -/
def onCurve (x y : Nat) : Bool := decide (y * y % p256P = (x * x * x + p256A * x + p256B) % p256P)

/-- `ValidPeer(B, |B|)` (R207). -/
def validPeer (b : Bytes) : Bool :=
  decide (b.length = Config.pubBytes) &&
    (decide ((decodePoint b).1 < p256P) && decide ((decodePoint b).2 < p256P) &&
      onCurve (decodePoint b).1 (decodePoint b).2)

/-- `PubKey(d)` (R208). -/
def pubKey (d : Nat) : Bytes := encodePoint (pointMul d p256G)

/-- `Shared(d, B)` (R208): the x-coordinate of the product point. -/
def sharedSecret (d : Nat) (b : Bytes) : Bytes :=
  toBE256 (pointCoords (pointMul d (some (decodePoint b)))).1

/-- The set a draw is taken from (10_state.md R48). -/
def legalScalar (d : Nat) : Bool := decide (1 ≤ d) && decide (d < p256N)

end Sys2Proof.Machine
end

