-- ==== Sys2Proof/Machine/Ops.lean ====
section
/-! DEFINITION. The named operations over memory, registers, hidden state and ports that the meanings share
(00_scope.md R13). What stands where an exception entry would is the error completion
(60_exceptions.md R343, R354); there is no return from it, since nothing is entered (R355). -/

namespace Sys2Proof.Machine

/-! ## LMEM (20_memory.md R61, 70_reset_and_hazards.md R372) -/

/-- The byte written at an address, if one has been. -/
def Memory.find : Memory → Nat → Option Byte
  | [], _ => none
  | (k, x) :: rest, a => if a = k then some x else Memory.find rest a

/-- Writing one byte; the list stays in its canonical form. -/
def Memory.put : Memory → Nat → Byte → Memory
  | [], a, b => [(a, b)]
  | (k, x) :: rest, a, b =>
    if a < k then (a, b) :: (k, x) :: rest
    else if a = k then (a, b) :: rest
    else (k, x) :: Memory.put rest a b

/-- Writing a byte string at consecutive addresses. -/
def Memory.putBytes : Memory → Nat → Bytes → Memory
  | m, _, [] => m
  | m, a, b :: bs => Memory.putBytes (m.put a b) (a + 1) bs

/-- `LMEM[a]`: the byte written there, or, where nothing has been written since the last hardware reset,
the unspecified byte of R372 (a free value, the same at each read). -/
def State.byteAt (s : State) (a : Nat) : Byte :=
  (s.lmem.find a).getD (Config.lmemByte s.env.lmemEpoch a)

/-- `MemRead(a, n)` (00_scope.md R13). -/
def State.memRead (s : State) : Nat → Nat → Bytes
  | _, 0 => []
  | a, n + 1 => s.byteAt a :: s.memRead (a + 1) n

/-- `MemWrite(a, |B|, B)` (00_scope.md R13). -/
def State.memWrite (s : State) (a : Nat) (b : Bytes) : State :=
  { s with lmem := s.lmem.putBytes a b }

/-- The 32-bit little-endian word at an address (20_memory.md R64). -/
def State.wordAt (s : State) (a : Nat) : Word :=
  word32 (s.byteAt a) (s.byteAt (a + 1)) (s.byteAt (a + 2)) (s.byteAt (a + 3))

/-- `InRange(a, n)` (00_scope.md R13, 20_memory.md R70): the sum is taken in the natural numbers. -/
def State.inRange (s : State) (a n : Nat) : Bool := decide (a + n ≤ s.params.lmemSize)

/-! ## Completion of a command (60_exceptions.md R343) -/

/-- Completion with `OK` and the two results (30_encoding.md R93). -/
def State.completeOk (s : State) (r0 r1 : Word) : State :=
  { s with code := .ok, res0 := r0, res1 := r1 }

/-- Completion with an error code: `STATUS.CODE <- code`, `RES0 <- 0`, `RES1 <- 0`, nothing else (R343). -/
def State.errorCompletion (s : State) (c : Code) : State :=
  { s with code := c, res0 := 0, res1 := 0 }

/-! ## Output records (00_scope.md R13 `emit`) -/

/-- `emit`: one output record, after those already put out. -/
def State.emit (s : State) (o : Output) : State :=
  { s with env := { s.env with out := s.env.out ++ [o] } }

/-! ## The ECDH session (43_ecdh_p256.md R215) -/

/-- `DiscardSession()` (R215). -/
def State.discardSession (s : State) : State := { s with ecdh := EcdhSession.empty }

/-! ## The draw (10_state.md R48) -/

/-- The `k`-th free draw: some element of `{1, …, n-1}`. -/
def freeScalar (k : Nat) : Nat := 1 + Config.draw k % (p256N - 1)

/-- `draw {1, …, n-1}` (R48): the value a `draw` input has fixed for it, else a free value. -/
def State.drawn (s : State) : Nat :=
  match s.env.draws with
  | [] => freeScalar s.env.freeCount
  | d :: _ => if legalScalar d.toNat then d.toNat else freeScalar s.env.freeCount

/-- The state after a draw has been used. -/
def State.afterDraw (s : State) : State :=
  { s with env := { s.env with draws := s.env.draws.tail, freeCount := s.env.freeCount + 1 } }

/-! ## The FILE port (20_memory.md R63) -/

/-- `FileRead(o, n)` (00_scope.md R13): the `n` bytes at offset `o` of the presented file; past its end,
where the provider breaks its duty (R383), free bytes. -/
def State.fileBytes (s : State) (o n : Nat) : Bytes :=
  let got := (s.env.file.drop o).take n
  got ++ (List.range (n - got.length)).map fun i => Config.fileByte s.env.freeCount (o + got.length + i)

/-- The state after a file read: the request with its answer is put out on the FILE port. -/
def State.afterFileRead (s : State) (o n : Nat) : State :=
  { s with env := { s.env with out := s.env.out ++ [.fileRead o n (s.fileBytes o n)],
                               freeCount := s.env.freeCount + 1 } }

/-! ## The session table (44_secure_channel.md R232) -/

/-- `sess[c]`, if it is defined (R231). -/
def findSession : List Session → Cid → Option Bytes
  | [], _ => none
  | e :: rest, c => if e.cid = c then some e.key else findSession rest c

/-- The table with an entry put in its place by rising `cid`. -/
def insertSession : List Session → Session → List Session
  | [], e => [e]
  | x :: rest, e => if e.cid < x.cid then e :: x :: rest else x :: insertSession rest e

/-- `Has(c)` (R232). -/
def State.hasSession (s : State) (c : Cid) : Bool := (findSession s.sch.sess c).isSome

/-- `Full()` (R232). -/
def State.tableFull (s : State) : Bool := decide (s.params.nsess ≤ s.nactive)

/-- `Insert(c, k)` (R232); used with not `Has(c)` and not `Full()`. -/
def State.insertSess (s : State) (c : Cid) (k : Bytes) : State :=
  { s with sch := { s.sch with sess := insertSession s.sch.sess { cid := c, key := k } } }

/-- `Remove(c)` (R232): the entry is gone. -/
def State.removeSess (s : State) (c : Cid) : State :=
  { s with sch := { s.sch with sess := s.sch.sess.filter fun e => decide (e.cid ≠ c) } }

/-- `ClearAll()` (R232). -/
def State.clearSess (s : State) : State := { s with sch := { s.sch with sess := [] } }

/-- The end of a datagram event: `LASTCODE` (R233). -/
def State.setLast (s : State) (c : Code) : State := { s with sch := { s.sch with last := c } }

end Sys2Proof.Machine
end

