-- ==== Sys2Proof/Machine/Operands.lean ====
section
/-! DEFINITION. Operand forms (30_encoding.md R93, R94) and the checks the commands make of them, each in the
order its rule lists (60_exceptions.md R346). -/

namespace Sys2Proof.Machine

/-! ## Checks in order -/

/-- One check: whether it passes, and the completion code if it does not. -/
abbrev Check := Bool × Code

/-- The code of the first check that fails (R346: only one code is reported). -/
def firstFailure : List Check → Option Code
  | [] => none
  | (true, _) :: rest => firstFailure rest
  | (false, c) :: _ => some c

/-- A command behind its checks: the first that fails ends it with an error completion (R343). -/
def State.checked (s : State) (checks : List Check) (success : Result) : Result :=
  match firstFailure checks with
  | some c => .next (s.errorCompletion c)
  | none => success

/-! ## The field descriptor (30_encoding.md R94) -/

/-- `bit_pos` = `ARG1[7:0]`. -/
def State.bitPos (s : State) : Nat := (s.arg1.extractLsb' 0 8).toNat

/-- `bit_len` = `ARG1[15:8]`. -/
def State.bitLen (s : State) : Nat := (s.arg1.extractLsb' 8 8).toNat

/-- `FieldMask(pos, len)` (41_bitfield.md R151): `2^len - 1` is formed in the natural numbers. -/
def fieldMask (pos len : Nat) : Word := BitVec.ofNat 32 ((2 ^ len - 1) <<< pos)

/-- Steps 2 to 5 of 41_bitfield.md R152. -/
def State.descriptorChecks (s : State) : List Check :=
  [(s.arg1.extractLsb' 16 16 == 0, .errArg),
   (decide (s.bitPos ≤ 31), .errArg),
   (decide (1 ≤ s.bitLen) && decide (s.bitLen ≤ 32), .errArg),
   (decide (s.bitPos + s.bitLen ≤ 32), .errArg)]

/-- Step 6 of R152: the record and mask regions do not overlap. -/
def State.regionsApart (s : State) : Bool :=
  s.bf.recSize == 0 || decide (s.bf.recBase.toNat + s.bf.recSize.toNat ≤ s.bf.maskBase.toNat)
    || decide (s.bf.maskBase.toNat + s.bf.recSize.toNat ≤ s.bf.recBase.toNat)

/-- Step 7 of R152: the record lies in LMEM. -/
def State.recordInRange (s : State) : Bool := s.inRange s.bf.recBase.toNat s.bf.recSize.toNat

/-- Step 8 of R152: the mask buffer lies in LMEM. -/
def State.maskInRange (s : State) : Bool := s.inRange s.bf.maskBase.toNat s.bf.recSize.toNat

/-- Step 9 of R152: the word lies in the record. -/
def State.wordInRecord (s : State) : Bool := decide (s.arg0.toNat + 4 ≤ s.bf.recSize.toNat)

/-- The LMEM address of the record word (46_system.md R304: base plus offset, in the natural numbers). -/
def State.recWordAddr (s : State) : Nat := s.bf.recBase.toNat + s.arg0.toNat

/-- The LMEM address of the mask word. -/
def State.maskWordAddr (s : State) : Nat := s.bf.maskBase.toNat + s.arg0.toNat

/-- The checks of `BFPACK`: R152 steps 2 to 9. -/
def State.bfpackChecks (s : State) : List Check :=
  s.descriptorChecks ++
    [(s.regionsApart, .errArg), (s.recordInRange, .errAddr), (s.maskInRange, .errAddr),
     (s.wordInRecord, .errAddr)]

/-- The checks of `BFUNPACK`: R152 steps 2 to 5, 7, 9. -/
def State.bfunpackChecks (s : State) : List Check :=
  s.descriptorChecks ++ [(s.recordInRange, .errAddr), (s.wordInRecord, .errAddr)]

/-- The checks of `BFCLEAR`: R152 steps 6, 7, 8. -/
def State.bfclearChecks (s : State) : List Check :=
  [(s.regionsApart, .errArg), (s.recordInRange, .errAddr), (s.maskInRange, .errAddr)]

/-! ## The other commands -/

/-- The check of `CRC32` (40_crc32.md R134). -/
def State.crc32Checks (s : State) : List Check := [(s.inRange s.arg0.toNat s.arg1.toNat, .errAddr)]

/-- The address checks (2) and (3) of an AES command whose output may take `outLen` bytes
(42_aes_cbc.md R185, R186). -/
def State.aesRangeChecks (s : State) (outLen : Nat) : List Check :=
  [(s.inRange s.arg0.toNat s.arg1.toNat, .errAddr), (s.inRange s.arg2.toNat outLen, .errAddr)]

/-- Check (4) of R185 and R186: `KSEL = 0`, the key lies in LMEM. -/
def State.keyInRange (s : State) : Check := (s.inRange s.arg3.toNat Config.aesBlock, .errAddr)

/-- Check (5) of R185 and R186: `KSEL = 1`, a shared secret is held. -/
def State.secretHeld (s : State) : Check := (s.ecdh.ssValid, .errCryptoNoSession)

/-- The key of `KSEL = 0` (R184). -/
def State.lmemKey (s : State) : Bytes := s.memRead s.arg3.toNat Config.aesBlock

/-- The key of `KSEL = 1`: the first 16 bytes of the shared secret (R184). -/
def State.secretKey (s : State) : Bytes := s.ecdh.ss.take Config.aesBlock

/-- The source bytes of `CRC32` and the AES commands: `ARG1` bytes at `ARG0`. -/
def State.sourceBytes (s : State) : Bytes := s.memRead s.arg0.toNat s.arg1.toNat

/-- The check of `ECDHGEN` (43_ecdh_p256.md R212). -/
def State.ecdhgenChecks (s : State) : List Check :=
  [(s.inRange s.arg0.toNat Config.pubBytes, .errAddr)]

/-- Checks (2) to (4) of `ECDHDERIVE` (43_ecdh_p256.md R213). -/
def State.ecdhderiveChecks (s : State) : List Check :=
  [(s.ecdh.keyValid && !s.ecdh.ssValid, .errState),
   (s.inRange s.arg0.toNat s.arg1.toNat, .errAddr),
   (s.inRange s.arg2.toNat Config.ssBytes, .errAddr)]

/-- `1 <= XFER_CHUNK <= 65535` (45_frame_transfer.md R270). -/
def State.chunkLegal (s : State) : Bool :=
  decide (1 ≤ s.xfer.chunk.toNat) && decide (s.xfer.chunk.toNat ≤ Config.chunkMax)

/-- Checks (2) and (3) of `XFERSTART` (45_frame_transfer.md R270). -/
def State.xferstartChecks (s : State) : List Check :=
  [(!s.xfer.state.waiting, .errState), (s.chunkLegal, .errArg)]

end Sys2Proof.Machine
end

