-- ==== Sys2Proof/Machine/Bus.lean ====
section
/-! DEFINITION. Host accesses to registers and LMEM (10_state.md R24 to R37, 20_memory.md R61, R66, R67). The
write to `CMD` is in Machine/Deliver.lean. -/

namespace Sys2Proof.Machine

/-- The bus offset of the LMEM window (R24, R60). -/
abbrev lmemWindow : Nat := 0x10000

/-- The byte offset from `BASE` of a bus address (R24). -/
def State.busOffset (s : State) (addr : Nat) : Nat := addr - s.params.base

/-- An aligned 32-bit access to the register space (R66, R67). -/
def State.wordAccess (s : State) (addr : Nat) : Bool :=
  decide (s.params.base ≤ addr) && decide (s.busOffset addr < lmemWindow) && decide (s.busOffset addr % 4 = 0)

/-- A byte access to the LMEM window, offsets `0x10000` to `0x10000 + LMEM_SIZE - 1` (R24, R61, R67), in the region
the platform decodes (R71, which a legal region holds whole). An access outside the window is refused
(93_implementation_defined.md U14; log 7). -/
def State.byteAccess (s : State) (addr : Nat) : Bool :=
  decide (s.params.base + lmemWindow ≤ addr) &&
    decide (addr < s.params.base + lmemWindow + s.params.lmemSize) &&
    decide (addr < s.params.base + s.params.regionSize)

/-- What a host read of the register at an offset returns (R24): write-only and reserved offsets read 0
(R36). -/
def State.regRead (s : State) (offset : Nat) : Word :=
  match offset with
  | 0x04 => s.statusWord
  | 0x08 => s.arg0
  | 0x0C => s.arg1
  | 0x10 => s.arg2
  | 0x14 => s.arg3
  | 0x18 => s.res0
  | 0x1C => s.res1
  | 0x20 => s.bf.recBase
  | 0x24 => s.bf.maskBase
  | 0x28 => s.bf.recSize
  | 0x2C => s.ecdhStatusWord
  | 0x30 => s.xfer.chunk
  | 0x34 => s.xfer.timeout
  | 0x38 => s.xferStatusWord
  | 0x3C => s.xfer.size
  | 0x40 => s.xfer.off
  | 0x44 => s.xfer.last
  | 0x48 => s.xfer.hash[0]
  | 0x4C => s.xfer.hash[1]
  | 0x50 => s.xfer.hash[2]
  | 0x54 => s.xfer.hash[3]
  | 0x58 => s.xfer.hash[4]
  | 0x5C => s.xfer.hash[5]
  | 0x60 => s.xfer.hash[6]
  | 0x64 => s.xfer.hash[7]
  | 0x68 => s.schCtrlWord
  | 0x6C => s.schStatusWord
  | _ => 0

/-- A write to `XFER_CHUNK`: ignored while a transfer is in flight (R28). -/
def State.writeChunk (s : State) (v : Word) : State :=
  if s.xfer.state.waiting then s else { s with xfer := { s.xfer with chunk := v } }

/-- A write to `XFER_HASHk` (R32). -/
def State.writeHash (s : State) (k : Fin 8) (v : Word) : State :=
  { s with xfer := { s.xfer with hash := s.xfer.hash.set k v } }

/-- A write to `SCH_PSKk` (R35). -/
def State.writePsk (s : State) (k : Fin 4) (v : Word) : State :=
  { s with sch := { s.sch with psk := s.sch.psk.set k v } }

/-- A write to `SCH_CTRL` (R33): mode 3 is ignored as a whole; every other write sets the mode and clears
the session table. -/
def State.writeSchCtrl (s : State) (v : Word) : State :=
  match schModeOf (v.extractLsb' 0 2) with
  | none => s
  | some m => { s.clearSess with sch := { s.clearSess.sch with mode := m } }

/-- A host write to the register at an offset other than `CMD` (R24): read-only and reserved offsets ignore
it (R36, R37). -/
def State.regWrite (s : State) (offset : Nat) (v : Word) : State :=
  match offset with
  | 0x08 => { s with arg0 := v }
  | 0x0C => { s with arg1 := v }
  | 0x10 => { s with arg2 := v }
  | 0x14 => { s with arg3 := v }
  | 0x20 => { s with bf := { s.bf with recBase := v } }
  | 0x24 => { s with bf := { s.bf with maskBase := v } }
  | 0x28 => { s with bf := { s.bf with recSize := v } }
  | 0x30 => s.writeChunk v
  | 0x34 => { s with xfer := { s.xfer with timeout := v } }
  | 0x48 => s.writeHash 0 v
  | 0x4C => s.writeHash 1 v
  | 0x50 => s.writeHash 2 v
  | 0x54 => s.writeHash 3 v
  | 0x58 => s.writeHash 4 v
  | 0x5C => s.writeHash 5 v
  | 0x60 => s.writeHash 6 v
  | 0x64 => s.writeHash 7 v
  | 0x68 => s.writeSchCtrl v
  | 0x70 => s.writePsk 0 v
  | 0x74 => s.writePsk 1 v
  | 0x78 => s.writePsk 2 v
  | 0x7C => s.writePsk 3 v
  | _ => s

/-- A host byte read at offset `0x10000 + a` (R61): at or beyond `0x10000 + LMEM_SIZE` it would read 0; the step
refuses that access (U14; log 7). -/
def State.hostRead8 (s : State) (a : Nat) : Byte := if s.inRange a 1 then s.byteAt a else 0

/-- A host byte write at offset `0x10000 + a` (R61): at or beyond `0x10000 + LMEM_SIZE` it would write nothing; the
step refuses that access (U14; log 7). -/
def State.hostWrite8 (s : State) (a : Nat) (b : Byte) : State :=
  if s.inRange a 1 then s.memWrite a [b] else s

end Sys2Proof.Machine
end

