-- ==== Sys2Proof/Machine/AesCbc.lean ====
section
/-! DEFINITION. AES-128 (42_aes_cbc.md R171 to R177) and CBC with the zero IV, zero padding and NUL truncation
(R180 to R183). The spec marks the cipher "from general knowledge, not in source" (U2): log 13. -/

namespace Sys2Proof.Machine

/-! ## Field arithmetic (R172) -/

/-- `xtime(a)` (R172). -/
def xtime (a : Byte) : Byte := (a <<< 1) ^^^ (if a.getLsbD 7 then 0x1B else 0x00)

/-- The loop of `gmul` over the low `fuel` bits of `b`, lowest first (R172). -/
def gmulLoop : Nat → Byte → Byte → Byte → Byte
  | 0, _, _, r => r
  | fuel + 1, a, b, r => gmulLoop fuel (xtime a) (b >>> 1) (if b.getLsbD 0 then r ^^^ a else r)

/-- `gmul(a, b)` (R172). -/
def gmul (a b : Byte) : Byte := gmulLoop 8 a b 0

/-! ## S-boxes (R173, R174), row `h`, column `l` -/

/-- The S-box by rows (R173). -/
def sboxRows : List (List Byte) :=
  [
    [0x63, 0x7c, 0x77, 0x7b, 0xf2, 0x6b, 0x6f, 0xc5, 0x30, 0x01, 0x67, 0x2b, 0xfe, 0xd7, 0xab, 0x76],
    [0xca, 0x82, 0xc9, 0x7d, 0xfa, 0x59, 0x47, 0xf0, 0xad, 0xd4, 0xa2, 0xaf, 0x9c, 0xa4, 0x72, 0xc0],
    [0xb7, 0xfd, 0x93, 0x26, 0x36, 0x3f, 0xf7, 0xcc, 0x34, 0xa5, 0xe5, 0xf1, 0x71, 0xd8, 0x31, 0x15],
    [0x04, 0xc7, 0x23, 0xc3, 0x18, 0x96, 0x05, 0x9a, 0x07, 0x12, 0x80, 0xe2, 0xeb, 0x27, 0xb2, 0x75],
    [0x09, 0x83, 0x2c, 0x1a, 0x1b, 0x6e, 0x5a, 0xa0, 0x52, 0x3b, 0xd6, 0xb3, 0x29, 0xe3, 0x2f, 0x84],
    [0x53, 0xd1, 0x00, 0xed, 0x20, 0xfc, 0xb1, 0x5b, 0x6a, 0xcb, 0xbe, 0x39, 0x4a, 0x4c, 0x58, 0xcf],
    [0xd0, 0xef, 0xaa, 0xfb, 0x43, 0x4d, 0x33, 0x85, 0x45, 0xf9, 0x02, 0x7f, 0x50, 0x3c, 0x9f, 0xa8],
    [0x51, 0xa3, 0x40, 0x8f, 0x92, 0x9d, 0x38, 0xf5, 0xbc, 0xb6, 0xda, 0x21, 0x10, 0xff, 0xf3, 0xd2],
    [0xcd, 0x0c, 0x13, 0xec, 0x5f, 0x97, 0x44, 0x17, 0xc4, 0xa7, 0x7e, 0x3d, 0x64, 0x5d, 0x19, 0x73],
    [0x60, 0x81, 0x4f, 0xdc, 0x22, 0x2a, 0x90, 0x88, 0x46, 0xee, 0xb8, 0x14, 0xde, 0x5e, 0x0b, 0xdb],
    [0xe0, 0x32, 0x3a, 0x0a, 0x49, 0x06, 0x24, 0x5c, 0xc2, 0xd3, 0xac, 0x62, 0x91, 0x95, 0xe4, 0x79],
    [0xe7, 0xc8, 0x37, 0x6d, 0x8d, 0xd5, 0x4e, 0xa9, 0x6c, 0x56, 0xf4, 0xea, 0x65, 0x7a, 0xae, 0x08],
    [0xba, 0x78, 0x25, 0x2e, 0x1c, 0xa6, 0xb4, 0xc6, 0xe8, 0xdd, 0x74, 0x1f, 0x4b, 0xbd, 0x8b, 0x8a],
    [0x70, 0x3e, 0xb5, 0x66, 0x48, 0x03, 0xf6, 0x0e, 0x61, 0x35, 0x57, 0xb9, 0x86, 0xc1, 0x1d, 0x9e],
    [0xe1, 0xf8, 0x98, 0x11, 0x69, 0xd9, 0x8e, 0x94, 0x9b, 0x1e, 0x87, 0xe9, 0xce, 0x55, 0x28, 0xdf],
    [0x8c, 0xa1, 0x89, 0x0d, 0xbf, 0xe6, 0x42, 0x68, 0x41, 0x99, 0x2d, 0x0f, 0xb0, 0x54, 0xbb, 0x16]
  ]

/-- The inverse S-box by rows (R174). -/
def invSboxRows : List (List Byte) :=
  [
    [0x52, 0x09, 0x6a, 0xd5, 0x30, 0x36, 0xa5, 0x38, 0xbf, 0x40, 0xa3, 0x9e, 0x81, 0xf3, 0xd7, 0xfb],
    [0x7c, 0xe3, 0x39, 0x82, 0x9b, 0x2f, 0xff, 0x87, 0x34, 0x8e, 0x43, 0x44, 0xc4, 0xde, 0xe9, 0xcb],
    [0x54, 0x7b, 0x94, 0x32, 0xa6, 0xc2, 0x23, 0x3d, 0xee, 0x4c, 0x95, 0x0b, 0x42, 0xfa, 0xc3, 0x4e],
    [0x08, 0x2e, 0xa1, 0x66, 0x28, 0xd9, 0x24, 0xb2, 0x76, 0x5b, 0xa2, 0x49, 0x6d, 0x8b, 0xd1, 0x25],
    [0x72, 0xf8, 0xf6, 0x64, 0x86, 0x68, 0x98, 0x16, 0xd4, 0xa4, 0x5c, 0xcc, 0x5d, 0x65, 0xb6, 0x92],
    [0x6c, 0x70, 0x48, 0x50, 0xfd, 0xed, 0xb9, 0xda, 0x5e, 0x15, 0x46, 0x57, 0xa7, 0x8d, 0x9d, 0x84],
    [0x90, 0xd8, 0xab, 0x00, 0x8c, 0xbc, 0xd3, 0x0a, 0xf7, 0xe4, 0x58, 0x05, 0xb8, 0xb3, 0x45, 0x06],
    [0xd0, 0x2c, 0x1e, 0x8f, 0xca, 0x3f, 0x0f, 0x02, 0xc1, 0xaf, 0xbd, 0x03, 0x01, 0x13, 0x8a, 0x6b],
    [0x3a, 0x91, 0x11, 0x41, 0x4f, 0x67, 0xdc, 0xea, 0x97, 0xf2, 0xcf, 0xce, 0xf0, 0xb4, 0xe6, 0x73],
    [0x96, 0xac, 0x74, 0x22, 0xe7, 0xad, 0x35, 0x85, 0xe2, 0xf9, 0x37, 0xe8, 0x1c, 0x75, 0xdf, 0x6e],
    [0x47, 0xf1, 0x1a, 0x71, 0x1d, 0x29, 0xc5, 0x89, 0x6f, 0xb7, 0x62, 0x0e, 0xaa, 0x18, 0xbe, 0x1b],
    [0xfc, 0x56, 0x3e, 0x4b, 0xc6, 0xd2, 0x79, 0x20, 0x9a, 0xdb, 0xc0, 0xfe, 0x78, 0xcd, 0x5a, 0xf4],
    [0x1f, 0xdd, 0xa8, 0x33, 0x88, 0x07, 0xc7, 0x31, 0xb1, 0x12, 0x10, 0x59, 0x27, 0x80, 0xec, 0x5f],
    [0x60, 0x51, 0x7f, 0xa9, 0x19, 0xb5, 0x4a, 0x0d, 0x2d, 0xe5, 0x7a, 0x9f, 0x93, 0xc9, 0x9c, 0xef],
    [0xa0, 0xe0, 0x3b, 0x4d, 0xae, 0x2a, 0xf5, 0xb0, 0xc8, 0xeb, 0xbb, 0x3c, 0x83, 0x53, 0x99, 0x61],
    [0x17, 0x2b, 0x04, 0x7e, 0xba, 0x77, 0xd6, 0x26, 0xe1, 0x69, 0x14, 0x63, 0x55, 0x21, 0x0c, 0x7d]
  ]

/-- Entry `16 h + l` of a table given by rows. -/
def boxAt (rows : List (List Byte)) (a : Byte) : Byte :=
  (rows.getD (a.toNat / 16) []).getD (a.toNat % 16) 0

/-- `SBOX[a]` (R173). -/
def sbox (a : Byte) : Byte := boxAt sboxRows a

/-- `INVSBOX[a]` (R174). -/
def invSbox (a : Byte) : Byte := boxAt invSboxRows a

/-! ## Key expansion (R175) -/

/-- `RCON` (R175). -/
def rcon : List Byte := [0x01, 0x02, 0x04, 0x08, 0x10, 0x20, 0x40, 0x80, 0x1B, 0x36]

/-- `t` for word `j` of the schedule, from the previous word (R175): RotWord, SubWord and the round
constant where `j` is a multiple of 4. -/
def scheduleTemp (prev : Bytes) (j : Nat) : Bytes :=
  if j % 4 = 0 then
    [sbox (prev.getD 1 0) ^^^ rcon.getD (j / 4 - 1) 0, sbox (prev.getD 2 0), sbox (prev.getD 3 0),
      sbox (prev.getD 0 0)]
  else prev

/-- Word `j` from the words before it (R175). -/
def scheduleWord (ws : List Bytes) (j : Nat) : Bytes :=
  xorBytes (ws.getD (j - 4) []) (scheduleTemp (ws.getD (j - 1) []) j)

/-- The first `4 + m` words of the schedule (R175). -/
def scheduleWords (k : Bytes) : Nat → List Bytes
  | 0 => [k.take 4, (k.drop 4).take 4, (k.drop 8).take 4, (k.drop 12).take 4]
  | m + 1 => scheduleWords k m ++ [scheduleWord (scheduleWords k m) (m + 4)]

/-- The eleven round keys `rk[0]` to `rk[10]` of a key (R175). -/
def roundKeys (k : Bytes) : List Bytes :=
  let w := scheduleWords k 40
  (List.range 11).map fun r =>
    w.getD (4 * r) [] ++ w.getD (4 * r + 1) [] ++ w.getD (4 * r + 2) [] ++ w.getD (4 * r + 3) []

/-! ## Rounds (R176, R177). A cipher state is 16 bytes, row `r`, column `c` at index `r + 4c` (R171). -/

/-- The byte at index `i` of a cipher state. -/
def stAt (s : Bytes) (i : Nat) : Byte := s.getD i 0

/-- `SubBytes` (R176). -/
def subBytes (s : Bytes) : Bytes := s.map sbox

/-- `InvSubBytes` (R177). -/
def invSubBytes (s : Bytes) : Bytes := s.map invSbox

/-- `ShiftRows` (R176): `s'[r + 4c] = s[r + 4((c + r) mod 4)]`. -/
def shiftRows (s : Bytes) : Bytes :=
  (List.range 16).map fun i => stAt s (i % 4 + 4 * ((i / 4 + i % 4) % 4))

/-- `InvShiftRows` (R177): `s'[r + 4c] = s[r + 4((c - r) mod 4)]`. -/
def invShiftRows (s : Bytes) : Bytes :=
  (List.range 16).map fun i => stAt s (i % 4 + 4 * ((i / 4 + 4 - i % 4) % 4))

/-- One column of `MixColumns` (R176). -/
def mixColumn (a0 a1 a2 a3 : Byte) : Bytes :=
  [gmul a0 2 ^^^ gmul a1 3 ^^^ a2 ^^^ a3,
   a0 ^^^ gmul a1 2 ^^^ gmul a2 3 ^^^ a3,
   a0 ^^^ a1 ^^^ gmul a2 2 ^^^ gmul a3 3,
   gmul a0 3 ^^^ a1 ^^^ a2 ^^^ gmul a3 2]

/-- One column of `InvMixColumns` (R177). -/
def invMixColumn (a0 a1 a2 a3 : Byte) : Bytes :=
  [gmul a0 14 ^^^ gmul a1 11 ^^^ gmul a2 13 ^^^ gmul a3 9,
   gmul a0 9 ^^^ gmul a1 14 ^^^ gmul a2 11 ^^^ gmul a3 13,
   gmul a0 13 ^^^ gmul a1 9 ^^^ gmul a2 14 ^^^ gmul a3 11,
   gmul a0 11 ^^^ gmul a1 13 ^^^ gmul a2 9 ^^^ gmul a3 14]

/-- A column function applied to each of the four columns. -/
def onColumns (f : Byte → Byte → Byte → Byte → Bytes) (s : Bytes) : Bytes :=
  (List.range 4).flatMap fun c =>
    f (stAt s (4 * c)) (stAt s (4 * c + 1)) (stAt s (4 * c + 2)) (stAt s (4 * c + 3))

/-- `MixColumns` (R176). -/
def mixColumns (s : Bytes) : Bytes := onColumns mixColumn s

/-- `InvMixColumns` (R177). -/
def invMixColumns (s : Bytes) : Bytes := onColumns invMixColumn s

/-- One of the rounds 1 to 9 (R176). -/
def encRound (s rk : Bytes) : Bytes := xorBytes (mixColumns (shiftRows (subBytes s))) rk

/-- One of the rounds 9 down to 1 of the inverse cipher (R177). -/
def decRound (s rk : Bytes) : Bytes := invMixColumns (xorBytes (invSubBytes (invShiftRows s)) rk)

/-- The cipher under given round keys (R176). -/
def encBlockWith (rks : List Bytes) (block : Bytes) : Bytes :=
  let s := ((rks.drop 1).take 9).foldl encRound (xorBytes block (rks.getD 0 []))
  xorBytes (shiftRows (subBytes s)) (rks.getD 10 [])

/-- The inverse cipher under given round keys (R177). -/
def decBlockWith (rks : List Bytes) (block : Bytes) : Bytes :=
  let s := ((rks.drop 1).take 9).reverse.foldl decRound (xorBytes block (rks.getD 10 []))
  xorBytes (invSubBytes (invShiftRows s)) (rks.getD 0 [])

/-- `AesEncBlock(k, in)` (R176). -/
def aesEncBlock (k block : Bytes) : Bytes := encBlockWith (roundKeys k) block

/-- `AesDecBlock(k, in)` (R177). -/
def aesDecBlock (k block : Bytes) : Bytes := decBlockWith (roundKeys k) block

/-! ## CBC (R180 to R183) -/

/-- The fixed IV: 16 zero bytes (R7, R180). -/
def cbcIv : Bytes := zeros Config.aesBlock

/-- `16 * ceil(n / 16)` (R181, R185). -/
def paddedLength (n : Nat) : Nat := 16 * ((n + 15) / 16)

/-- `ZeroPad(P)` (R181): nothing is added at a multiple of 16. -/
def zeroPad (p : Bytes) : Bytes := p ++ zeros ((16 - p.length % 16) % 16)

/-- The CBC loop over `m` whole blocks: each block is combined with the ciphertext block before it (R180). -/
def cbcEncBlocks (k : Bytes) : Nat → Bytes → Bytes → Bytes
  | 0, _, _ => []
  | m + 1, prev, p =>
    let c := aesEncBlock k (xorBytes (p.take 16) prev)
    c ++ cbcEncBlocks k m c (p.drop 16)

/-- The inverse loop over `m` whole blocks (R182). -/
def cbcDecBlocks (k : Bytes) : Nat → Bytes → Bytes → Bytes
  | 0, _, _ => []
  | m + 1, prev, c =>
    xorBytes (aesDecBlock k (c.take 16)) prev ++ cbcDecBlocks k m (c.take 16) (c.drop 16)

/-- `CbcEnc(k, P)` (R180). -/
def cbcEnc (k p : Bytes) : Bytes := cbcEncBlocks k ((zeroPad p).length / 16) cbcIv (zeroPad p)

/-- `CbcDecRaw(k, C)`, used for `|C|` a multiple of 16 (R182). -/
def cbcDecRaw (k c : Bytes) : Bytes := cbcDecBlocks k (c.length / 16) cbcIv c

/-- `NulTrunc(B)` (R183): the bytes before the first zero byte. -/
def nulTrunc (b : Bytes) : Bytes := b.takeWhile fun x => x != 0

/-- `CbcDec(k, C)` (R183). -/
def cbcDec (k c : Bytes) : Bytes := nulTrunc (cbcDecRaw k c)

end Sys2Proof.Machine
end

