-- ==== Sys2Proof/Machine/AesUnit.lean ====
section
/-! DEFINITION. The commands of the AES unit (42_aes_cbc.md R184 to R186). All input is read before any output
is written (20_memory.md R68). -/

namespace Sys2Proof.Machine

/-- The success case of R185 under key `k`: encrypt `ARG1` bytes at `ARG0` to `ARG2`. -/
def State.encryptWith (s : State) (k : Bytes) : State :=
  (s.memWrite s.arg2.toNat (cbcEnc k s.sourceBytes)).completeOk
    (BitVec.ofNat 32 (paddedLength s.arg1.toNat)) 0

/-- The success case of R186 under key `k`: decrypt `ARG1` bytes at `ARG0` to `ARG2`; only the bytes before
the first NUL are written. -/
def State.decryptWith (s : State) (k : Bytes) : State :=
  (s.memWrite s.arg2.toNat (cbcDec k s.sourceBytes)).completeOk
    (BitVec.ofNat 32 (cbcDec k s.sourceBytes).length) s.arg1

/-- Check (6) of R186: the ciphertext is whole blocks. -/
def State.wholeBlocks (s : State) : Bool := decide (s.arg1.toNat % 16 = 0)

/-- `AESENC` (R185, `KSEL = 0`). -/
def execAesenc (s : State) : Result :=
  s.checked (s.aesRangeChecks (paddedLength s.arg1.toNat) ++ [s.keyInRange])
    (.next (s.encryptWith s.lmemKey))

/-- `AESENC.S` (R185, `KSEL = 1`): the session is discarded (R184). -/
def execAesencS (s : State) : Result :=
  s.checked (s.aesRangeChecks (paddedLength s.arg1.toNat) ++ [s.secretHeld])
    (.next (s.encryptWith s.secretKey).discardSession)

/-- `AESDEC` (R186, `KSEL = 0`). -/
def execAesdec (s : State) : Result :=
  s.checked (s.aesRangeChecks s.arg1.toNat ++ [s.keyInRange, (s.wholeBlocks, .errCryptoLen)])
    (.next (s.decryptWith s.lmemKey))

/-- `AESDEC.S` (R186, `KSEL = 1`): from the length check on, the session is discarded, on success and on
`ERR_CRYPTO_LEN` (R184). -/
def execAesdecS (s : State) : Result :=
  s.checked (s.aesRangeChecks s.arg1.toNat ++ [s.secretHeld])
    (.next (if s.wholeBlocks then (s.decryptWith s.secretKey).discardSession
      else (s.errorCompletion .errCryptoLen).discardSession))

end Sys2Proof.Machine
end

