-- ==== Sys2Proof/Machine/BitField.lean ====
section
/-! DEFINITION. The commands of the bit-field unit (41_bitfield.md R153 to R155). -/

namespace Sys2Proof.Machine

/-- `w'` of R153: the field cleared, `value << pos` ORed in. The value is NOT masked to the field's length
(R157). -/
def packWord (pos len : Nat) (w value : Word) : Word :=
  (w &&& ~~~ fieldMask pos len) ||| (value <<< pos)

/-- `m'` of R153: the field's bits marked. -/
def packMask (pos len : Nat) (m : Word) : Word := m ||| fieldMask pos len

/-- The field of a word (R154). -/
def unpackWord (pos len : Nat) (w : Word) : Word := (w >>> pos) &&& BitVec.ofNat 32 (2 ^ len - 1)

/-- The record word `BFPACK` writes (R153). -/
def State.packedWord (s : State) : Word :=
  packWord s.bitPos s.bitLen (s.wordAt s.recWordAddr) s.arg2

/-- The mask word `BFPACK` writes (R153). -/
def State.packedMask (s : State) : Word := packMask s.bitPos s.bitLen (s.wordAt s.maskWordAddr)

/-- `BFPACK` (R153). -/
def execBfpack (s : State) : Result :=
  s.checked s.bfpackChecks
    (.next (((s.memWrite s.recWordAddr (toLE32 s.packedWord)).memWrite s.maskWordAddr
      (toLE32 s.packedMask)).completeOk s.packedWord s.packedMask))

/-- `BFUNPACK` (R154). -/
def execBfunpack (s : State) : Result :=
  s.checked s.bfunpackChecks
    (.next (s.completeOk (unpackWord s.bitPos s.bitLen (s.wordAt s.recWordAddr)) 0))

/-- `BFCLEAR` (R155). -/
def execBfclear (s : State) : Result :=
  s.checked s.bfclearChecks
    (.next (((s.memWrite s.bf.recBase.toNat (zeros s.bf.recSize.toNat)).memWrite s.bf.maskBase.toNat
      (zeros s.bf.recSize.toNat)).completeOk 0 0))

end Sys2Proof.Machine
end

