-- ==== Sys2Proof/Machine/Crc.lean ====
section
/-! DEFINITION. The function of the CRC unit: CRC-32/ISO-HDLC (40_crc32.md R131, R132). The spec marks it
"from general knowledge, not in source" (U1): log 13. -/

namespace Sys2Proof.Machine

/-- One of the eight repetitions of R132: shift right, and fold in the polynomial if bit 0 was 1. -/
def crcBit (c : Word) : Word := if c.getLsbD 0 then (c >>> 1) ^^^ 0xEDB88320 else c >>> 1

/-- `fuel` repetitions of `crcBit` (R132). -/
def crcBits : Nat → Word → Word
  | 0, c => c
  | fuel + 1, c => crcBits fuel (crcBit c)

/-- The loop body of R132: the byte enters at bits 7:0, then eight repetitions. -/
def crcByte (c : Word) (b : Byte) : Word := crcBits 8 (c ^^^ b.setWidth 32)

/-- `Crc32(B)` (R132). -/
def crc32 (b : Bytes) : Word := b.foldl crcByte 0xFFFFFFFF ^^^ 0xFFFFFFFF

end Sys2Proof.Machine
end

