-- ==== Sys2Proof/Machine/CrcUnit.lean ====
section
/-! DEFINITION. The command of the CRC unit (40_crc32.md R134). -/

namespace Sys2Proof.Machine

/-- `CRC32` (R134): the CRC of the `ARG1` bytes of LMEM at `ARG0`. -/
def execCrc32 (s : State) : Result :=
  s.checked s.crc32Checks (.next (s.completeOk (crc32 s.sourceBytes) 0))

end Sys2Proof.Machine
end

