-- ==== Sys2Proof/Machine/EcdhUnit.lean ====
section
/-! DEFINITION. The commands of the ECDH unit (43_ecdh_p256.md R210 to R215). -/

namespace Sys2Proof.Machine

/-- The success case of `ECDHGEN` with the draw `d` (R212). -/
def State.generateWith (s : State) (d : Nat) : State :=
  ({ s with ecdh := { d := BitVec.ofNat 256 d, q := pubKey d, ss := zeros Config.ssBytes,
                      keyValid := true, ssValid := false } }.memWrite s.arg0.toNat (pubKey d)).completeOk 64 0

/-- `ECDHGEN` (R212). -/
def execEcdhgen (s : State) : Result :=
  s.checked s.ecdhgenChecks (.next (s.generateWith s.drawn).afterDraw)

/-- The success case of `ECDHDERIVE` for the peer key `b` (R213). -/
def State.deriveWith (s : State) (b : Bytes) : State :=
  ({ s with ecdh := { s.ecdh with ss := sharedSecret s.ecdh.d.toNat b, ssValid := true } }.memWrite
    s.arg2.toNat (sharedSecret s.ecdh.d.toNat b)).completeOk 32 0

/-- `ECDHDERIVE` (R213): a malformed peer key discards the session. -/
def execEcdhderive (s : State) : Result :=
  s.checked s.ecdhderiveChecks
    (.next (if validPeer s.sourceBytes then s.deriveWith s.sourceBytes
      else (s.errorCompletion .errCryptoPeerKey).discardSession))

/-- `ECDHDISCARD` (R214). -/
def execEcdhdiscard (s : State) : Result := .next (s.discardSession.completeOk 0 0)

end Sys2Proof.Machine
end

