-- ==== Sys2Proof/WellFormed.lean ====
section
/-! DEFINITION. Which instruction terms stand for something: the length bounds of the ports and formats
(10_state.md R44, 30_encoding.md R96 to R107, 20_memory.md R63). -/

namespace Sys2Proof

/-- The bounds of a term's operands. Commands have none. -/
def WellFormed : Instr → Bool
  | .nop | .crc32 | .bfpack | .bfunpack | .bfclear | .aesenc | .aesencS | .aesdec | .aesdecS => true
  | .ecdhgen | .ecdhderive | .ecdhdiscard | .xferstart | .xferabort | .schreset | .sreset => true
  | .rxTimeout | .trailerFrame | .finalAck | .txClose | .okReply => true
  | .rxReply r => decide (r.length ≤ Config.rxMax)
  | .trailerReply h => decide (h.length ≤ Config.rxMax - 2)
  | .dgIn _ d => decide (d.length ≤ Config.dgMax)
  | .payload _ d => decide (d.length ≤ Config.dgMax)
  | .cipherDatagram _ d => decide (d.length % 16 = 0) && decide (d.length ≤ Config.dgMax)
  | .helloDatagram _ _ _ => true
  | .helloReplyDatagram _ _ _ => true
  | .hdrFrame _ => true
  | .dataFrame c => decide (1 ≤ c.length) && decide (c.length ≤ Config.chunkMax)
  | .fileRead _ n => decide (1 ≤ n.toNat) && decide (n.toNat ≤ Config.chunkMax)

end Sys2Proof
end

