-- ==== Sys2Proof/Decode.lean ====
section
/-! DEFINITION. From wire forms to instructions and back (30_encoding.md). `decodeCommand` is the decoder
of a word written to `CMD` (R91); the record decoders name the form of a port record (R97 to R107).
Every decoder is total and rejects by name. The encoder is written from the same tables. -/

namespace Sys2Proof

open Sys2Proof.Machine

/-- The opcode map (R92), by the value of `c[7:0]`: the operation, and its `KSEL = 1` form where it has
one. -/
def opcodeMap : Nat → Option (Instr × Option Instr)
  | 0x00 => some (.nop, none)
  | 0x01 => some (.crc32, none)
  | 0x02 => some (.bfpack, none)
  | 0x03 => some (.bfunpack, none)
  | 0x04 => some (.bfclear, none)
  | 0x10 => some (.aesenc, some .aesencS)
  | 0x11 => some (.aesdec, some .aesdecS)
  | 0x20 => some (.ecdhgen, none)
  | 0x21 => some (.ecdhderive, none)
  | 0x22 => some (.ecdhdiscard, none)
  | 0x30 => some (.xferstart, none)
  | 0x31 => some (.xferabort, none)
  | 0x40 => some (.schreset, none)
  | 0x7F => some (.sreset, none)
  | _ => none

/-- Decoding of a word written to `CMD` (R91): reserved bits, then the opcode, then `KSEL`. -/
def decodeCommand (c : Word) : Except Reject Instr :=
  if c.extractLsb' 9 23 ≠ 0 then .error .reservedBits
  else
    match opcodeMap (c.extractLsb' 0 8).toNat with
    | none => .error .unassignedOpcode
    | some (plain, keyed) =>
      if c.getLsbD 8 then
        match keyed with
        | some i => .ok i
        | none => .error .kselNotAllowed
      else .ok plain

/-- `IsOk(R)` (R106): exactly the two bytes "OK". -/
def isOk (r : Bytes) : Bool := r == okBytes

/-- `StartsOk(R)` (R107). -/
def startsOk (r : Bytes) : Bool := r.take 2 == okBytes

/-- `IsHello(D)` (R97): the first four bytes are "csk:". -/
def isHello (d : Bytes) : Bool := d.take 4 == cskBytes

/-- The form of a reply: the row of the table whose leading bytes it has (R106, R107, R110). -/
def replyForm (r : Bytes) : Instr :=
  if isOk r then .okReply
  else if startsOk r then .trailerReply (r.drop 2)
  else .rxReply r

/-- The form of a datagram (R98, R100, R110): a 68-byte hello, a whole number of cipher blocks, or
neither. The form names the record; what the block does with it is decided by its state (R233). -/
def datagramForm (cid : Cid) (d : Bytes) : Instr :=
  if isHello d && d.length == 68 then
    .helloDatagram cid (BitVec.ofNat 256 (be256 ((d.drop 4).take 32))) (BitVec.ofNat 256 (be256 (d.drop 36)))
  else if d.length % 16 == 0 then .cipherDatagram cid d
  else .dgIn cid d

/-- A reply record on the RX port: at most 66 bytes (10_state.md R44). -/
def decodeReply (r : Bytes) : Except Reject Instr :=
  if r.length ≤ Config.rxMax then .ok (replyForm r) else .error .recordTooLong

/-- A datagram on the DG port: at most 1024 bytes (10_state.md R44). -/
def decodeDatagram (cid : Cid) (d : Bytes) : Except Reject Instr :=
  if d.length ≤ Config.dgMax then .ok (datagramForm cid d) else .error .recordTooLong

/-- A record of the TX port (R101 to R105). The block builds these and never parses them; this is the
reader on the other side (R104, R108). -/
def decodeTx (b : Bytes) : Except Reject Instr :=
  if b == checkHashBytes then .ok .finalAck
  else
    match b with
    | [0xF2, 0x00, 0x00, 0x00] => .ok .trailerFrame
    | [0xF0, 0x00, 0x04, 0x00, s0, s1, s2, s3] => .ok (.hdrFrame (word32 s0 s1 s2 s3))
    | 0xF1 :: 0x00 :: l0 :: l1 :: chunk =>
      if 1 ≤ chunk.length ∧ (half16 l0 l1).toNat = chunk.length then .ok (.dataFrame chunk)
      else .error .notAFrame
    | _ => .error .notAFrame

/-- A datagram the block sends: only the hello reply (R99; 44_secure_channel.md R241). -/
def decodeDgOut (cid : Cid) (d : Bytes) : Except Reject Instr :=
  if d.take 4 == sskBytes && d.length == 68 then
    .ok (.helloReplyDatagram cid (BitVec.ofNat 256 (be256 ((d.drop 4).take 32)))
      (BitVec.ofNat 256 (be256 (d.drop 36))))
  else .error .notAHelloReply

/-- The instruction a wire form stands for. -/
def decode : Wire → Except Reject Instr
  | .command w => decodeCommand w
  | .rx r => decodeReply r
  | .rxTimeout => .ok .rxTimeout
  | .dgIn cid d => decodeDatagram cid d
  | .tx b => decodeTx b
  | .txClose => .ok .txClose
  | .dgOut cid d => decodeDgOut cid d
  | .fileRead o n =>
    if 1 ≤ n.toNat ∧ n.toNat ≤ Config.chunkMax then .ok (.fileRead o n) else .error .readLength
  | .payload cid d => if d.length ≤ Config.dgMax then .ok (.payload cid d) else .error .recordTooLong

/-- The instruction a command word of the table decodes to. The table gives every command 32 bits; a bit
above `nbits` is 0. -/
def decodeTableWord (nbits w : Nat) : Option Instr :=
  match decodeCommand (BitVec.ofNat 32 (w % 2 ^ nbits)) with
  | .ok i => some i
  | .error _ => none

/-! ## The encoder -/

/-- `HdrFrame(S)` (30_encoding.md R101, 45_frame_transfer.md R264). -/
def hdrFrameBytes (size : Word) : Bytes := [0xF0, 0x00, 0x04, 0x00] ++ toLE32 size

/-- `DataFrame(K)` (R102, R264). -/
def dataFrameBytes (k : Bytes) : Bytes := [0xF1, 0x00] ++ toLE16 (BitVec.ofNat 16 k.length) ++ k

/-- `TrailerFrame` (R103, R264). -/
def trailerFrameBytes : Bytes := [0xF2, 0x00, 0x00, 0x00]

/-- `FinalAck` (R105, R264). -/
def finalAckBytes : Bytes := checkHashBytes

/-- A hello (R98) of a key given by its coordinates. -/
def helloBytes (x y : Num256) : Bytes := cskBytes ++ toBE256 x.toNat ++ toBE256 y.toNat

/-- A hello reply (R99) of a key given by its coordinates. -/
def helloReplyBytes (x y : Num256) : Bytes := sskBytes ++ toBE256 x.toNat ++ toBE256 y.toNat

/-- The wire form of an instruction. The command words are those R92 lists. -/
def encode : Instr → Wire
  | .nop => .command 0x00000000
  | .crc32 => .command 0x00000001
  | .bfpack => .command 0x00000002
  | .bfunpack => .command 0x00000003
  | .bfclear => .command 0x00000004
  | .aesenc => .command 0x00000010
  | .aesencS => .command 0x00000110
  | .aesdec => .command 0x00000011
  | .aesdecS => .command 0x00000111
  | .ecdhgen => .command 0x00000020
  | .ecdhderive => .command 0x00000021
  | .ecdhdiscard => .command 0x00000022
  | .xferstart => .command 0x00000030
  | .xferabort => .command 0x00000031
  | .schreset => .command 0x00000040
  | .sreset => .command 0x0000007F
  | .rxReply r => .rx r
  | .rxTimeout => .rxTimeout
  | .dgIn cid d => .dgIn cid d
  | .hdrFrame size => .tx (hdrFrameBytes size)
  | .dataFrame k => .tx (dataFrameBytes k)
  | .trailerFrame => .tx trailerFrameBytes
  | .finalAck => .tx finalAckBytes
  | .txClose => .txClose
  | .okReply => .rx okBytes
  | .trailerReply h => .rx (okBytes ++ h)
  | .helloDatagram cid x y => .dgIn cid (helloBytes x y)
  | .helloReplyDatagram cid x y => .dgOut cid (helloReplyBytes x y)
  | .cipherDatagram cid d => .dgIn cid d
  | .fileRead o n => .fileRead o n
  | .payload cid d => .payload cid d

/-- The instruction named by its most special form: a reply or datagram given in the general form is
renamed to the row whose bytes it has; every other instruction is itself. -/
def Instr.canon : Instr → Instr
  | .nop => .nop
  | .crc32 => .crc32
  | .bfpack => .bfpack
  | .bfunpack => .bfunpack
  | .bfclear => .bfclear
  | .aesenc => .aesenc
  | .aesencS => .aesencS
  | .aesdec => .aesdec
  | .aesdecS => .aesdecS
  | .ecdhgen => .ecdhgen
  | .ecdhderive => .ecdhderive
  | .ecdhdiscard => .ecdhdiscard
  | .xferstart => .xferstart
  | .xferabort => .xferabort
  | .schreset => .schreset
  | .sreset => .sreset
  | .rxReply r => replyForm r
  | .rxTimeout => .rxTimeout
  | .dgIn cid d => datagramForm cid d
  | .hdrFrame size => .hdrFrame size
  | .dataFrame k => .dataFrame k
  | .trailerFrame => .trailerFrame
  | .finalAck => .finalAck
  | .txClose => .txClose
  | .okReply => .okReply
  | .trailerReply h => if h.isEmpty then .okReply else .trailerReply h
  | .helloDatagram cid x y => .helloDatagram cid x y
  | .helloReplyDatagram cid x y => .helloReplyDatagram cid x y
  | .cipherDatagram cid d => .cipherDatagram cid d
  | .fileRead o n => .fileRead o n
  | .payload cid d => .payload cid d

end Sys2Proof
end

