-- ==== Sys2Proof/Machine/Records.lean ====
section
/-! DEFINITION. The output records of the table (10_state.md R44, 30_encoding.md R99 to R105): the meaning of
each is its emission on its port (00_scope.md R13 `emit`), which the units perform inside their operations
(log 9). A record outside the bounds of its format is never emitted and is refused. -/

namespace Sys2Proof.Machine

/-- The header frame goes out on TX (R101, R264). -/
def execHdrFrame (size : Word) (s : State) : Result := .next (s.emit (.tx (hdrFrameBytes size)))

/-- A data frame of 1 to 65535 chunk bytes goes out on TX (R102, R264). -/
def execDataFrame (k : Bytes) (s : State) : Result :=
  if 1 ≤ k.length ∧ k.length ≤ Config.chunkMax then .next (s.emit (.tx (dataFrameBytes k)))
  else .refused .outputBounds

/-- The trailer frame goes out on TX (R103, R264). -/
def execTrailerFrame (s : State) : Result := .next (s.emit (.tx trailerFrameBytes))

/-- The final acknowledgement goes out on TX (R105, R264). -/
def execFinalAck (s : State) : Result := .next (s.emit (.tx finalAckBytes))

/-- The close goes out on TX (R44, R266, R274). -/
def execTxClose (s : State) : Result := .next (s.emit .txClose)

/-- A hello reply goes out on DG (R99, 44_secure_channel.md R236). -/
def execHelloReplyDatagram (cid : Cid) (x y : Num256) (s : State) : Result :=
  .next (s.emit (.dgOut cid (helloReplyBytes x y)))

/-- `FileRead(o, n)` goes out on FILE and is answered with `n` bytes (R44, 20_memory.md R63). -/
def execFileRead (o n : Word) (s : State) : Result :=
  if 1 ≤ n.toNat ∧ n.toNat ≤ Config.chunkMax ∧ o.toNat + n.toNat ≤ s.xfer.size.toNat then
    .next (s.afterFileRead o.toNat n.toNat)
  else .refused .fileReadBounds

/-- `Payload(cid, bytes)` goes out on PL (R44). -/
def execPayload (cid : Cid) (d : Bytes) (s : State) : Result :=
  if d.length ≤ Config.dgMax then .next (s.emit (.payload cid d)) else .refused .outputBounds

end Sys2Proof.Machine
end

