-- ==== Sys2Proof/Machine/SecureChannel.lean ====
section
/-! DEFINITION. The secure-channel machine: the event `DgIn` in its cases, its two datagram formats, and
`SCHRESET` (44_secure_channel.md R233 to R243). -/

namespace Sys2Proof.Machine

/-- The 16 bytes of `SCH_PSK` (10_state.md R35, R36). -/
def State.pskBytes (s : State) : Bytes := bytesOfRegs s.sch.psk.toList

/-- A datagram decrypted under a key (R235, R237): a bad length is `ERR_CRYPTO_LEN` and nothing is emitted,
else the truncated plaintext is the payload. -/
def State.decryptEvent (s : State) (cid : Cid) (k d : Bytes) : State :=
  if d.length % 16 = 0 then (s.emit (.payload cid (cbcDec k d))).setLast .ok
  else s.setLast .errCryptoLen

/-- An accepted hello (R236) with peer key `b` and draw `x`: the session is inserted, the reply emitted. -/
def State.acceptHello (s : State) (cid : Cid) (b : Bytes) (x : Nat) : State :=
  ((s.insertSess cid ((sharedSecret x b).take Config.aesBlock)).emit
    (.dgOut cid (sskBytes ++ pubKey x))).setLast .ok

/-- The hello case with peer key `b` (R236): peer validity, then table space; the draw is made only on the
success path. -/
def State.helloEvent (s : State) (cid : Cid) (b : Bytes) : State :=
  if !validPeer b then s.setLast .errCryptoPeerKey
  else if s.tableFull then s.setLast .errCryptoFull
  else (s.acceptHello cid b s.drawn).afterDraw

/-- `DgIn(cid, D)` (R233): by mode, then by the client's session, then by the hello test. -/
def State.dgEvent (s : State) (cid : Cid) (d : Bytes) : State :=
  match s.sch.mode with
  | .off => (s.emit (.payload cid d)).setLast .ok
  | .psk => s.decryptEvent cid s.pskBytes d
  | .ecdh =>
    match findSession s.sch.sess cid with
    | some k => (s.removeSess cid).decryptEvent cid k d
    | none => if isHello d then s.helloEvent cid (d.drop 4) else s.setLast .errCryptoNoSession

/-- `DgIn` (R233); a datagram over 1024 bytes cannot be presented (10_state.md R44). -/
def execDgIn (cid : Cid) (d : Bytes) (s : State) : Result :=
  if d.length ≤ Config.dgMax then .next (s.dgEvent cid d) else .refused .recordTooLong

/-- The hello datagram of R98 arrives: a `DgIn` with its 68 bytes. -/
def execHelloDatagram (cid : Cid) (x y : Num256) (s : State) : Result :=
  .next (s.dgEvent cid (helloBytes x y))

/-- An encrypted payload (30_encoding.md R100) arrives: a `DgIn` with its bytes. A length that is no multiple of
16 is an error of the datagram, not of the interface: `ERR_CRYPTO_LEN` where the bytes are decrypted (R235,
R237), else the case of R240 the bytes fall under. -/
def execCipherDatagram (cid : Cid) (d : Bytes) (s : State) : Result :=
  if d.length ≤ Config.dgMax then .next (s.dgEvent cid d) else .refused .recordTooLong

/-- `SCHRESET` (R242). -/
def execSchreset (s : State) : Result := .next ((s.clearSess.setLast .ok).completeOk 0 0)

end Sys2Proof.Machine
end

