-- ==== Sys2Proof/Machine/System.lean ====
section
/-! DEFINITION. The system commands `NOP` and `SRESET` (46_system.md R300, R301), the hardware reset
(70_reset_and_hazards.md R370, R371), and what a word that is no command does (60_exceptions.md R342). -/

namespace Sys2Proof.Machine

/-- `NOP` (R300). -/
def execNop (s : State) : Result := .next (s.completeOk 0 0)

/-- `SRESET` (R301): a transfer in flight is closed; every register and all hidden state take their reset
values; LMEM is not changed. -/
def execSreset (s : State) : Result :=
  let t := if s.xfer.state.waiting then s.emit .txClose else s
  .next ({ State.resetWith t.params t.env with lmem := t.lmem }.completeOk 0 0)

/-- A word written to `CMD` that is no legal command word (R342). -/
def State.illegalCommand (s : State) : State := s.errorCompletion .errIllegalCmd

/-- The hardware reset (R371): the state of R370, LMEM unspecified anew (R372), no record emitted. What the
other agents have presented stays pending (R373, log 17). -/
def State.hwReset (s : State) : State :=
  State.resetWith s.params { s.env with lmemEpoch := s.env.lmemEpoch + 1 }

end Sys2Proof.Machine
end

