-- ==== Sys2Proof/Machine/Transfer.lean ====
section
/-! DEFINITION. The transfer machine: `XFERSTART`, `XFERABORT`, the events `RxReply` and `RxTimeout`, and the
two reply formats (45_frame_transfer.md R266 to R283). -/

namespace Sys2Proof.Machine

/-- `Fail(e)` (R266). -/
def State.xferFail (s : State) (e : XferErr) : State :=
  { s with xfer := { s.xfer with err := e, state := .failed } }.emit .txClose

/-- `ceil(a / b)` in the natural numbers (46_system.md R305 (f)); used with `b >= 1`. -/
def ceilDiv (a b : Nat) : Nat := (a + (b - 1)) / b

/-- The success case of `XFERSTART` (R270). -/
def State.xferBegin (s : State) : State :=
  ({ s with xfer := { s.xfer with size := s.arg0, off := 0, last := 0, err := .none,
                                  state := .waitHdrAck } }.emit (.tx (hdrFrameBytes s.arg0))).completeOk
    (BitVec.ofNat 32 (ceilDiv s.arg0.toNat s.xfer.chunk.toNat)) 0

/-- `XFERSTART` (R270). -/
def execXferstart (s : State) : Result := s.checked s.xferstartChecks (.next s.xferBegin)

/-- The length of the next chunk (R276): `min(CS, S - o)`. -/
def State.nextChunkLen (s : State) : Nat :=
  min s.xfer.chunk.toNat (s.xfer.size.toNat - s.xfer.off.toNat)

/-- The bytes of the next chunk, read from the FILE port (R276). -/
def State.nextChunk (s : State) : Bytes := s.fileBytes s.xfer.off.toNat s.nextChunkLen

/-- `SendNext()` while bytes remain (R276): one file read, one data frame. -/
def State.sendChunk (s : State) : State :=
  let t := (s.afterFileRead s.xfer.off.toNat s.nextChunkLen).emit (.tx (dataFrameBytes s.nextChunk))
  { t with xfer := { t.xfer with off := BitVec.ofNat 32 (s.xfer.off.toNat + s.nextChunkLen),
                                 last := BitVec.ofNat 32 s.nextChunkLen, state := .waitChunkAck } }

/-- `SendNext()` at the end of the file (R276): the trailer. -/
def State.sendTrailer (s : State) : State :=
  { s with xfer := { s.xfer with state := .waitTrailerReply } }.emit (.tx trailerFrameBytes)

/-- `SendNext()` (R276). -/
def State.sendNext (s : State) : State :=
  if s.xfer.off.toNat < s.xfer.size.toNat then s.sendChunk else s.sendTrailer

/-- The value of an ASCII hexadecimal digit, either case (30_encoding.md R107). -/
def hexVal (b : Byte) : Option Nat :=
  if 0x30 ≤ b.toNat ∧ b.toNat ≤ 0x39 then some (b.toNat - 0x30)
  else if 0x41 ≤ b.toNat ∧ b.toNat ≤ 0x46 then some (b.toNat - 0x37)
  else if 0x61 ≤ b.toNat ∧ b.toNat ≤ 0x66 then some (b.toNat - 0x57)
  else none

/-- Pairs of hexadecimal digits as bytes, high digit first (30_encoding.md R107). -/
def hexDecode : Bytes → Option Bytes
  | [] => some []
  | [_] => none
  | h :: l :: rest =>
    match hexVal h, hexVal l, hexDecode rest with
    | some x, some y, some t => some (BitVec.ofNat 8 (16 * x + y) :: t)
    | _, _, _ => none

/-- `HexDecode32(H)` (30_encoding.md R107): defined for 64 hexadecimal digits. -/
def hexDecode32 (h : Bytes) : Option Bytes := if h.length = 64 then hexDecode h else none

/-- The digest in `XFER_HASH0..7` (10_state.md R32, R36). -/
def State.digest (s : State) : Bytes := bytesOfRegs s.xfer.hash.toList

/-- `HashMatch(H)` (R282). -/
def State.hashMatch (s : State) (h : Bytes) : Bool := hexDecode32 h == some s.digest

/-- Protocol success (R274): the final acknowledgement, then the close. -/
def State.xferDone (s : State) : State :=
  { s with xfer := { s.xfer with state := .done } }.emit (.tx finalAckBytes) |>.emit .txClose

/-- `RxReply(R)` (R271), by state: R272, R273, R274, R275. -/
def State.rxEvent (s : State) (r : Bytes) : State :=
  match s.xfer.state with
  | .waitHdrAck => if isOk r then s.sendNext else s.xferFail .error1
  | .waitChunkAck => if isOk r then s.sendNext else s.xferFail .error2
  | .waitTrailerReply =>
    if startsOk r then
      if s.hashMatch (r.drop 2) then s.xferDone else s.xferFail .error4
    else s.xferFail .error3
  | .idle | .done | .failed => s

/-- `RxReply` (R271); a reply over 66 bytes cannot be presented (10_state.md R44). -/
def execRxReply (r : Bytes) (s : State) : Result :=
  if r.length ≤ Config.rxMax then .next (s.rxEvent r) else .refused .recordTooLong

/-- The reply that is exactly "OK" (30_encoding.md R106) arrives. -/
def execOkReply (s : State) : Result := .next (s.rxEvent okBytes)

/-- A reply "OK" ++ `h` (30_encoding.md R107) arrives. -/
def execTrailerReply (h : Bytes) (s : State) : Result :=
  if h.length ≤ Config.rxMax - 2 then .next (s.rxEvent (okBytes ++ h)) else .refused .recordTooLong

/-- `RxTimeout` (R277): a failure in a waiting state, dropped in a resting state. -/
def execRxTimeout (s : State) : Result :=
  .next (if s.xfer.state.waiting then s.xferFail .timeout else s)

/-- `XFERABORT` (R281). -/
def execXferabort (s : State) : Result :=
  .next ((if s.xfer.state.waiting then s.xferFail .aborted
    else { s with xfer := { s.xfer with err := .none, state := .idle } }).completeOk 0 0)

end Sys2Proof.Machine
end

