-- ==== Sys2Proof/Machine/Dispatch.lean ====
section
/-! DEFINITION. The meaning of every instruction, one arm per row of spec/opcode_table.json. -/

namespace Sys2Proof.Machine

def exec (i : Instr) (s : State) : Host.Outcome State Fault Refusal :=
  match i with
  | .nop => Sys2Proof.Machine.execNop s
  | .crc32 => Sys2Proof.Machine.execCrc32 s
  | .bfpack => Sys2Proof.Machine.execBfpack s
  | .bfunpack => Sys2Proof.Machine.execBfunpack s
  | .bfclear => Sys2Proof.Machine.execBfclear s
  | .aesenc => Sys2Proof.Machine.execAesenc s
  | .aesencS => Sys2Proof.Machine.execAesencS s
  | .aesdec => Sys2Proof.Machine.execAesdec s
  | .aesdecS => Sys2Proof.Machine.execAesdecS s
  | .ecdhgen => Sys2Proof.Machine.execEcdhgen s
  | .ecdhderive => Sys2Proof.Machine.execEcdhderive s
  | .ecdhdiscard => Sys2Proof.Machine.execEcdhdiscard s
  | .xferstart => Sys2Proof.Machine.execXferstart s
  | .xferabort => Sys2Proof.Machine.execXferabort s
  | .schreset => Sys2Proof.Machine.execSchreset s
  | .sreset => Sys2Proof.Machine.execSreset s
  | .rxReply r => Sys2Proof.Machine.execRxReply r s
  | .rxTimeout => Sys2Proof.Machine.execRxTimeout s
  | .dgIn cid d => Sys2Proof.Machine.execDgIn cid d s
  | .hdrFrame size => Sys2Proof.Machine.execHdrFrame size s
  | .dataFrame chunk => Sys2Proof.Machine.execDataFrame chunk s
  | .trailerFrame => Sys2Proof.Machine.execTrailerFrame s
  | .finalAck => Sys2Proof.Machine.execFinalAck s
  | .txClose => Sys2Proof.Machine.execTxClose s
  | .okReply => Sys2Proof.Machine.execOkReply s
  | .trailerReply h => Sys2Proof.Machine.execTrailerReply h s
  | .helloDatagram cid x y => Sys2Proof.Machine.execHelloDatagram cid x y s
  | .helloReplyDatagram cid x y => Sys2Proof.Machine.execHelloReplyDatagram cid x y s
  | .cipherDatagram cid d => Sys2Proof.Machine.execCipherDatagram cid d s
  | .fileRead offset n => Sys2Proof.Machine.execFileRead offset n s
  | .payload cid d => Sys2Proof.Machine.execPayload cid d s

end Sys2Proof.Machine
end

