-- ==== Sys2Proof/Machine/Deliver.lean ====
section
/-! DEFINITION. What one presented operation does (00_scope.md R16, R17): a host access, a port event, or what
the environment fixes. The step (Machine/Step.lean) takes the oldest and calls `deliver`. -/

namespace Sys2Proof.Machine

/-- A word written to `CMD` (10_state.md R22, 30_encoding.md R91): the command it encodes runs, or the write
completes with `ERR_ILLEGAL_CMD`. -/
def runCommand (w : Word) (s : State) : Result :=
  match decodeCommand w with
  | .ok i => exec i s
  | .error _ => .next s.illegalCommand

/-- A port record: the instruction it stands for runs; one longer than the port allows cannot be presented
(10_state.md R44). -/
def runRecord (r : Except Reject Instr) (s : State) : Result :=
  match r with
  | .ok i => exec i s
  | .error _ => .refused .recordTooLong

/-- A host 32-bit write (20_memory.md R66, R67). -/
def deliverWrite32 (addr : Nat) (v : Word) (s : State) : Result :=
  if s.wordAccess addr then
    if s.busOffset addr = 0 then runCommand v s else .next (s.regWrite (s.busOffset addr) v)
  else .refused .busAccess

/-- A host 32-bit read; the value goes to the output trace (log 6). -/
def deliverRead32 (addr : Nat) (s : State) : Result :=
  if s.wordAccess addr then .next (s.emit (.hostRead32 addr (s.regRead (s.busOffset addr))))
  else .refused .busAccess

/-- A host byte write (20_memory.md R61, R67). -/
def deliverWrite8 (addr : Nat) (b : Byte) (s : State) : Result :=
  if s.byteAccess addr then .next (s.hostWrite8 (s.busOffset addr - lmemWindow) b) else .refused .busAccess

/-- A host byte read; the value goes to the output trace (log 6). -/
def deliverRead8 (addr : Nat) (s : State) : Result :=
  if s.byteAccess addr then
    .next (s.emit (.hostRead8 addr (s.hostRead8 (s.busOffset addr - lmemWindow))))
  else .refused .busAccess

/-- A `draw d` line (30_encoding.md R109): the value is queued for the next draw; it is an element of
`{1, …, n-1}` (10_state.md R48). -/
def deliverDraw (d : Num256) (s : State) : Result :=
  if legalScalar d.toNat then .next { s with env := { s.env with draws := s.env.draws ++ [d] } }
  else .refused .drawRange

/-- The file provider presents a file; it does not change during a transfer (70_reset_and_hazards.md R383). -/
def deliverFile (content : Bytes) (s : State) : Result :=
  if s.xfer.state.waiting then .refused .fileChanged
  else .next { s with env := { s.env with file := content } }

/-- One presented operation. -/
def deliver (x : Input) (s : State) : Result :=
  match x with
  | .write32 addr v => deliverWrite32 addr v s
  | .write16 _ _ => .refused .busAccess
  | .write8 addr b => deliverWrite8 addr b s
  | .read32 addr => deliverRead32 addr s
  | .read16 _ => .refused .busAccess
  | .read8 addr => deliverRead8 addr s
  | .rx r => runRecord (decode (.rx r)) s
  | .rxTimeout => runRecord (decode .rxTimeout) s
  | .dg cid d => runRecord (decode (.dgIn cid d)) s
  | .draw d => deliverDraw d s
  | .file content => deliverFile content s
  | .hwReset => .next s.hwReset

/-- The input that presents a wire form to a block with the given parameters, where the form is one the block takes
in: a command word is written to `CMD`, at offset 0 from `BASE` (10_state.md R22, R24). -/
def inputOf (p : Params) : Wire → Option Input
  | .command w => some (.write32 p.base w)
  | .rx r => some (.rx r)
  | .rxTimeout => some .rxTimeout
  | .dgIn cid d => some (.dg cid d)
  | .tx _ | .txClose | .dgOut _ _ | .fileRead _ _ | .payload _ _ => none

/-- The state with the oldest pending operation taken off. -/
def State.popInput (s : State) : State := { s with env := { s.env with inputs := s.env.inputs.tail } }

/-- The state with an operation presented before all others pending. -/
def State.pushInput (s : State) (x : Input) : State :=
  { s with env := { s.env with inputs := x :: s.env.inputs } }

end Sys2Proof.Machine
end

