-- ==== Sys2Proof/Machine/Step.lean ====
section
/-! DEFINITION. The step: the block takes the oldest pending operation and executes it atomically (00_scope.md
R17); with none pending it is idle (60_exceptions.md R361). -/

namespace Sys2Proof.Machine

/-- One step of the block (log 1). -/
def step (s : State) : Host.Outcome State Fault Refusal :=
  match s.env.inputs with
  | [] => .next s
  | x :: _ => deliver x s.popInput

/-- `s` with the command word `w` (bits at and above `nbits` zero) written to `CMD` as the very next
operation (log 1). -/
def State.withFetchWord (s : State) (nbits w : Nat) : State :=
  s.pushInput (.write32 s.params.base (BitVec.ofNat 32 (w % 2 ^ nbits)))

end Sys2Proof.Machine
end

