-- ==== Sys2Proof/Safety.lean ====
section
/-! DEFINITION. The terms claims are stated in: the invariants of the state (10_state.md R49,
45_frame_transfer.md R285), what an operation leaves unchanged, which inputs the interface allows, the
bounds of the ports, and runs of several instructions. -/

namespace Sys2Proof.Machine

/-! ## Invariants -/

/-- Every written byte lies in LMEM (20_memory.md R61). -/
def Memory.within (m : Memory) (size : Nat) : Bool := m.all fun c => decide (c.1 < size)

/-- The ECDH session (10_state.md R27, R40, R49): widths; `SS_VALID` implies `KEY_VALID`; a cleared flag means
its element is zero; a valid key is a scalar of `{1, …, n-1}` with its public key. -/
abbrev EcdhSession.Inv (e : EcdhSession) : Prop :=
  e.q.length = 64 ∧ e.ss.length = 32 ∧ (e.ssValid = true → e.keyValid = true) ∧
    (e.keyValid = false → e.d = 0 ∧ e.q = zeros 64) ∧ (e.ssValid = false → e.ss = zeros 32) ∧
    (e.keyValid = true → legalScalar e.d.toNat = true ∧ e.q = pubKey e.d.toNat)

/-- The transfer unit (10_state.md R30, R31, R49; 45_frame_transfer.md R285). -/
abbrev Xfer.Inv (x : Xfer) : Prop :=
  x.off.toNat ≤ x.size.toNat ∧ x.last.toNat ≤ 65535 ∧ (x.err ≠ .none ↔ x.state = .failed) ∧
    (x.state.waiting = true → 1 ≤ x.chunk.toNat ∧ x.chunk.toNat ≤ 65535) ∧
    (x.state = .waitHdrAck → x.off = 0) ∧
    (x.state = .waitChunkAck → 0 < x.off.toNat ∧ 1 ≤ x.last.toNat ∧
      (x.off.toNat % x.chunk.toNat = 0 ∨ x.off = x.size)) ∧
    (x.state = .waitTrailerReply ∨ x.state = .done → x.off = x.size)

/-- Strictly rising client ids: no two entries of one client (10_state.md R41). -/
def sessSorted : List Session → Bool
  | [] => true
  | [_] => true
  | x :: y :: rest => decide (x.cid < y.cid) && sessSorted (y :: rest)

/-- The secure channel (10_state.md R41, R49; 44_secure_channel.md R231): distinct clients, 16-byte keys, at
most `NSESS` entries, and none outside mode `ECDH`. -/
abbrev Sch.Inv (c : Sch) (nsess : Nat) : Prop :=
  sessSorted c.sess = true ∧ (c.sess.all fun e => decide (e.key.length = 16)) = true ∧
    c.sess.length ≤ nsess ∧ (c.mode ≠ .ecdh → c.sess = [])

/-- The invariants of the whole state (R49), with legal parameters (R8) and LMEM in its canonical form. -/
abbrev State.Inv (s : State) : Prop :=
  s.params.legal = true ∧ s.lmem.wf = true ∧ s.lmem.within s.params.lmemSize = true ∧
    s.ecdh.Inv ∧ s.xfer.Inv ∧ s.sch.Inv s.params.nsess

/-! ## Frames -/

/-- The two states differ at most in `STATUS`, `RES0` and `RES1`. -/
def OnlyResultsChange (s t : State) : Prop :=
  t = { s with code := t.code, res0 := t.res0, res1 := t.res1 }

/-- The two states differ at most in `STATUS`, `RES0`, `RES1` and LMEM. -/
def OnlyResultsAndLmemChange (s t : State) : Prop :=
  t = { s with code := t.code, res0 := t.res0, res1 := t.res1, lmem := t.lmem }

/-- Every LMEM byte outside `[a, a+n)` reads as before. -/
def LmemSameOutside (s t : State) (a n : Nat) : Prop :=
  ∀ b, ¬ (a ≤ b ∧ b < a + n) → t.byteAt b = s.byteAt b

/-- Every LMEM byte outside `[a, a+n)` and `[c, c+n)` reads as before. -/
def LmemSameOutsideTwo (s t : State) (a c n : Nat) : Prop :=
  ∀ b, ¬ (a ≤ b ∧ b < a + n) → ¬ (c ≤ b ∧ b < c + n) → t.byteAt b = s.byteAt b

/-- The state an error completion leaves (60_exceptions.md R343). -/
def ErrorState (s : State) (c : Code) : State := { s with code := c, res0 := 0, res1 := 0 }

/-! ## What the interface allows -/

/-- An input the interface allows in a state: 20_memory.md R67 and R71, U14 (log 7), 10_state.md R44 and R48,
70_reset_and_hazards.md R383. -/
def Input.allowed (s : State) : Input → Bool
  | .write32 a _ => decide (s.params.base ≤ a) && decide (a < s.params.base + 0x10000) &&
      decide ((a - s.params.base) % 4 = 0)
  | .read32 a => decide (s.params.base ≤ a) && decide (a < s.params.base + 0x10000) &&
      decide ((a - s.params.base) % 4 = 0)
  | .write16 _ _ => false
  | .read16 _ => false
  | .write8 a _ => decide (s.params.base + 0x10000 ≤ a) &&
      decide (a < s.params.base + 0x10000 + s.params.lmemSize) && decide (a < s.params.base + s.params.regionSize)
  | .read8 a => decide (s.params.base + 0x10000 ≤ a) &&
      decide (a < s.params.base + 0x10000 + s.params.lmemSize) && decide (a < s.params.base + s.params.regionSize)
  | .rx r => decide (r.length ≤ 66)
  | .rxTimeout => true
  | .dg _ d => decide (d.length ≤ 1024)
  | .draw d => decide (1 ≤ d.toNat) && decide (d.toNat < p256N)
  | .file _ => !s.xfer.state.waiting
  | .hwReset => true

/-- The bounds of the output ports (10_state.md R44, 20_memory.md R63). -/
def Output.bounded : Output → Bool
  | .tx b => decide (1 ≤ b.length) && decide (b.length ≤ 65539)
  | .txClose => true
  | .fileRead _ n ans => decide (1 ≤ n) && decide (n ≤ 65535) && decide (ans.length = n)
  | .dgOut _ b => decide (b.length ≤ 1024)
  | .payload _ b => decide (b.length ≤ 1024)
  | .hostRead32 _ _ => true
  | .hostRead8 _ _ => true

/-! ## The numbers the host reads, as the tables of the spec list them -/

/-- The numbers of the completion codes (60_exceptions.md R341). -/
def codeNumbers : List (Code × Nat) :=
  [(.ok, 0x00), (.errIllegalCmd, 0x01), (.errAddr, 0x02), (.errArg, 0x03), (.errState, 0x04),
   (.errCryptoPeerKey, 0x10), (.errCryptoLen, 0x11), (.errCryptoNoSession, 0x12), (.errCryptoFull, 0x13)]

/-- The numbers of `XFER_STATUS.STATE` (10_state.md R30). -/
def xferStateNumbers : List (XferState × Nat) :=
  [(.idle, 0), (.waitHdrAck, 1), (.waitChunkAck, 2), (.waitTrailerReply, 3), (.done, 4), (.failed, 5)]

/-- The numbers of `XFER_STATUS.ERR` (10_state.md R30). -/
def xferErrNumbers : List (XferErr × Nat) :=
  [(.none, 0), (.error1, 1), (.error2, 2), (.error3, 3), (.error4, 4), (.timeout, 5), (.aborted, 6)]

/-- The numbers of `SCH_CTRL.MODE` (10_state.md R33). -/
def schModeNumbers : List (SchMode × Nat) := [(.off, 0), (.psk, 1), (.ecdh, 2)]

/-- Which completion codes a command can end with (60_exceptions.md R352), column 0x01 apart: a decoded
command cannot end with `ERR_ILLEGAL_CMD`. -/
def codesOf : Instr → List Code
  | .crc32 => [.ok, .errAddr]
  | .bfpack => [.ok, .errAddr, .errArg]
  | .bfunpack => [.ok, .errAddr, .errArg]
  | .bfclear => [.ok, .errAddr, .errArg]
  | .aesenc => [.ok, .errAddr]
  | .aesencS => [.ok, .errAddr, .errCryptoNoSession]
  | .aesdec => [.ok, .errAddr, .errCryptoLen]
  | .aesdecS => [.ok, .errAddr, .errCryptoLen, .errCryptoNoSession]
  | .ecdhgen => [.ok, .errAddr]
  | .ecdhderive => [.ok, .errAddr, .errState, .errCryptoPeerKey]
  | .xferstart => [.ok, .errArg, .errState]
  | _ => [.ok]

/-! ## Runs -/

/-- Several instructions one after the other, stopping where one gives no next state. -/
def runInstrs : List Instr → State → Result
  | [], s => .next s
  | i :: rest, s =>
    match exec i s with
    | .next t => runInstrs rest t
    | .fault f => .fault f
    | .refused r => .refused r

/-- A run of `k` steps is safe when it ends in a next state. -/
def SafeRun (k : Nat) (s : State) : Prop := ∃ t, Host.Core.run Sys2Proof.core k s = .next t

/-- Chunk `j` of a file cut into chunks of `cs` bytes (45_frame_transfer.md R265). -/
def fileChunk (file : Bytes) (cs j : Nat) : Bytes := (file.drop (j * cs)).take cs

end Sys2Proof.Machine
end

