-- ==== Sys2Proof/Certificates/Slice0/Obligations.lean ====
section
/-! DEFINITION. The statements for the provers. Each docstring names the rules of spec/ it rests on. Words a
statement takes from the model's own choices (the pending inputs, the output trace, the presented file, the
queue of draws) rest on logs 1, 4, 5 and 6. -/

open Sys2Proof Sys2Proof.Machine

/-! ## Encodings -/

/-- R92: the sixteen command words and the operation each selects. -/
def Obligations.CommandWordsDecode : Prop :=
  decodeCommand 0x00000000 = .ok .nop ∧ decodeCommand 0x00000001 = .ok .crc32 ∧
  decodeCommand 0x00000002 = .ok .bfpack ∧ decodeCommand 0x00000003 = .ok .bfunpack ∧
  decodeCommand 0x00000004 = .ok .bfclear ∧ decodeCommand 0x00000010 = .ok .aesenc ∧
  decodeCommand 0x00000110 = .ok .aesencS ∧ decodeCommand 0x00000011 = .ok .aesdec ∧
  decodeCommand 0x00000111 = .ok .aesdecS ∧ decodeCommand 0x00000020 = .ok .ecdhgen ∧
  decodeCommand 0x00000021 = .ok .ecdhderive ∧ decodeCommand 0x00000022 = .ok .ecdhdiscard ∧
  decodeCommand 0x00000030 = .ok .xferstart ∧ decodeCommand 0x00000031 = .ok .xferabort ∧
  decodeCommand 0x00000040 = .ok .schreset ∧ decodeCommand 0x0000007F = .ok .sreset

/-- R91: a word is illegal exactly when bits 31:9 are not 0, or its low byte is no opcode, or bit 8 is 1 on an
opcode other than 0x10 and 0x11; an illegal word completes with `ERR_ILLEGAL_CMD` and no other effect, any
other runs the command whose encoding it is. -/
def Obligations.CommandWordIsIllegalExactlyAsR91Says : Prop :=
  ∀ (c : Word) (s : State),
    ((c.toNat / 512 ≠ 0 ∨
        c.toNat % 256 ∉ [0x00, 0x01, 0x02, 0x03, 0x04, 0x10, 0x11, 0x20, 0x21, 0x22, 0x30, 0x31, 0x40, 0x7F] ∨
        (c.getLsbD 8 = true ∧ c.toNat % 256 ≠ 0x10 ∧ c.toNat % 256 ≠ 0x11)) →
      runCommand c s = .next { s with code := .errIllegalCmd, res0 := 0, res1 := 0 }) ∧
    (¬ (c.toNat / 512 ≠ 0 ∨
        c.toNat % 256 ∉ [0x00, 0x01, 0x02, 0x03, 0x04, 0x10, 0x11, 0x20, 0x21, 0x22, 0x30, 0x31, 0x40, 0x7F] ∨
        (c.getLsbD 8 = true ∧ c.toNat % 256 ≠ 0x10 ∧ c.toNat % 256 ≠ 0x11)) →
      ∃ i, encode i = .command c ∧ runCommand c s = exec i s)

/-- Decode and encode agree (R90 to R107): every well-formed instruction, with every operand, is read back from
its wire form, a reply or datagram under its most special name. -/
def Obligations.EncodeThenDecodeGivesTheInstruction : Prop :=
  ∀ i : Instr, WellFormed i = true → decode (encode i) = .ok i.canon

/-- The most special name of a reply or datagram changes neither its bytes nor its meaning (R106, R107, R98,
R100 against R271, R233). -/
def Obligations.CanonicalNameKeepsBytesAndMeaning : Prop :=
  ∀ (i : Instr) (s : State), WellFormed i = true →
    encode i.canon = encode i ∧ WellFormed i.canon = true ∧ exec i.canon s = exec i s

/-- No bit of a wire form is dropped: what decodes encodes back to the same bytes, and is well-formed. -/
def Obligations.DecodedWireEncodesBack : Prop :=
  ∀ (w : Wire) (i : Instr), decode w = .ok i → encode i = w ∧ WellFormed i = true

/-! ## The step -/

/-- Log 1, R17, R91: when the oldest pending operation presents a wire form that decodes to `i`, the step takes
it off and is `exec i`; with nothing pending the block is idle. -/
def Obligations.StepRunsTheDecodedInstruction : Prop :=
  (∀ (s : State) (w : Wire) (x : Input) (rest : List Input) (i : Instr),
    s.env.inputs = x :: rest → inputOf s.params w = some x → decode w = .ok i →
      Machine.step s = exec i { s with env := { s.env with inputs := rest } }) ∧
  (∀ s : State, s.env.inputs = [] → Machine.step s = .next s)

/-- R342 at the level of the step, where what is pending is the model's (log 1) and so is the bus address of `CMD`,
`BASE` (log 16): an illegal word written to `CMD` sets `STATUS.CODE` to 1 and clears the
results; nothing else changes, no record is emitted. -/
def Obligations.IllegalCommandOnlyReportsItself : Prop :=
  ∀ (s : State) (w : Word) (rest : List Input) (e : Reject),
    s.env.inputs = .write32 s.params.base w :: rest → decodeCommand w = .error e →
      Machine.step s = .next { s with code := .errIllegalCmd, res0 := 0, res1 := 0,
                                      env := { s.env with inputs := rest } } ∧
      Code.errIllegalCmd.byte = 0x01

/-- R18 with the interface preconditions of R44, R48, R67, R383: the step answers a next state exactly when
nothing is pending or the oldest pending operation is one the interface allows. A byte access is allowed in the LMEM
window and refused outside it (U14 of 93_implementation_defined.md, where R61 has it read 0 and write nothing: log
7); that the decoded region is a parameter (log 7), the refusal of a file in flight (log 5) and the pending operations
(log 1) are the model's choice. -/
def Obligations.StepCompletesExactlyOnAllowedInputs : Prop :=
  ∀ s : State, (∃ t, Machine.step s = .next t) ↔
    (∀ x, s.env.inputs.head? = some x → Input.allowed s x = true)

/-! ## Invariants -/

/-- R370 to R372: what a hardware reset leaves, for the parameters of log 2. -/
def Obligations.ResetValues : Prop :=
  State.reset.statusWord = 0 ∧ State.reset.arg0 = 0 ∧ State.reset.arg1 = 0 ∧ State.reset.arg2 = 0 ∧
  State.reset.arg3 = 0 ∧ State.reset.res0 = 0 ∧ State.reset.res1 = 0 ∧ State.reset.bf.recBase = 0 ∧
  State.reset.bf.maskBase = 0 ∧ State.reset.bf.recSize = 0 ∧ State.reset.ecdhStatusWord = 0 ∧
  State.reset.ecdh.d = 0 ∧ State.reset.ecdh.q = zeros 64 ∧ State.reset.ecdh.ss = zeros 32 ∧
  State.reset.xfer.chunk = 4096 ∧ State.reset.xfer.timeout = 1000 ∧ State.reset.xferStatusWord = 0 ∧
  State.reset.xfer.size = 0 ∧ State.reset.xfer.off = 0 ∧ State.reset.xfer.last = 0 ∧
  State.reset.digest = zeros 32 ∧ State.reset.schCtrlWord = 0 ∧ State.reset.schStatusWord = 0 ∧
  State.reset.pskBytes = zeros 16 ∧ State.reset.sch.sess = [] ∧ State.reset.lmem = []

/-- R49, R285: the reset state meets the invariants. -/
def Obligations.ResetMeetsTheInvariants : Prop := State.Inv State.reset

/-- R49, R285: every step from a state that meets the invariants gives a state that meets them. -/
def Obligations.StepKeepsTheInvariants : Prop :=
  ∀ s t : State, State.Inv s → Machine.step s = .next t → State.Inv t

/-! ## Completion of commands in general -/

/-- R343: an error completion writes `STATUS.CODE`, clears `RES0` and `RES1`, and changes nothing else, but that
`ECDHDERIVE` ending with `ERR_CRYPTO_PEERKEY` and `AESDEC.S` ending with `ERR_CRYPTO_LEN` discard the ECDH
session. The second clause is the word that is no command; the third says a success writes `OK`. -/
def Obligations.ErrorCompletionHasNoOtherEffect : Prop :=
  (∀ (i : Instr) (s t : State), i.isCommand = true → exec i s = .next t → t.code ≠ .ok →
    t = { s with code := t.code, res0 := 0, res1 := 0,
                 ecdh := if (i = .ecdhderive ∧ t.code = .errCryptoPeerKey) ∨
                            (i = .aesdecS ∧ t.code = .errCryptoLen)
                         then EcdhSession.empty else s.ecdh }) ∧
  (∀ (w : Word) (s : State) (e : Reject), decodeCommand w = .error e →
    runCommand w s = .next { s with code := .errIllegalCmd, res0 := 0, res1 := 0 }) ∧
  Code.ok.byte = 0 ∧ ∀ c : Code, c ≠ .ok → c.byte ≠ 0

/-- R352: the codes each command can end with, and that it always ends (R18). -/
def Obligations.CommandsEndWithTheirCodes : Prop :=
  ∀ (i : Instr) (s : State), i.isCommand = true → ∃ t, exec i s = .next t ∧ t.code ∈ codesOf i

/-- R62: a command that is not `BFPACK`, `BFCLEAR`, `AESENC`, `AESDEC`, `ECDHGEN` or `ECDHDERIVE`, and every
event and record, leaves every byte of LMEM as it was. -/
def Obligations.OnlySixCommandsWriteLmem : Prop :=
  ∀ (i : Instr) (s t : State),
    i ∉ [Instr.bfpack, .bfclear, .aesenc, .aesencS, .aesdec, .aesdecS, .ecdhgen, .ecdhderive] →
      exec i s = .next t → ∀ a, t.byteAt a = s.byteAt a

/-- R21 (the block never writes an `ARG` register) and R60 (of the register space the block writes `STATUS`, `RES`
and status registers): every instruction but `SRESET` (R301) keeps operands and configuration. For the model's own
fields (parameters, pending operations, the presented file) it is the model's choice (logs 1, 2, 5). -/
def Obligations.CommandsKeepOperandsAndConfiguration : Prop :=
  ∀ (i : Instr) (s t : State), i ≠ .sreset → exec i s = .next t →
    t.params = s.params ∧ t.arg0 = s.arg0 ∧ t.arg1 = s.arg1 ∧ t.arg2 = s.arg2 ∧ t.arg3 = s.arg3 ∧
    t.bf = s.bf ∧ t.xfer.chunk = s.xfer.chunk ∧ t.xfer.timeout = s.xfer.timeout ∧
    t.xfer.hash = s.xfer.hash ∧ t.sch.mode = s.sch.mode ∧ t.sch.psk = s.sch.psk ∧
    t.env.inputs = s.env.inputs ∧ t.env.file = s.env.file

/-- R44 and R63 with the invariants of R49: an operation only appends to the output trace, every record it puts out
is within the bounds of its port, and every file read ends at or before `XFER_SIZE`. -/
def Obligations.OutputRecordsAreWithinPortBounds : Prop :=
  ∀ (i : Instr) (s t : State), WellFormed i = true → State.Inv s → exec i s = .next t →
    ∃ new, t.env.out = s.env.out ++ new ∧ ∀ r ∈ new, Output.bounded r = true ∧
      ∀ o n answer, r = .fileRead o n answer → o + n ≤ s.xfer.size.toNat

/-! ## System commands -/

/-- R300: `NOP`. -/
def Obligations.NopClearsResultsOnly : Prop :=
  ∀ s : State, exec .nop s = .next { s with code := .ok, res0 := 0, res1 := 0 } ∧
    encode .nop = .command 0x00000000 ∧ decodeCommand 0x00000100 = .error .kselNotAllowed

/-- R301: `SRESET` gives every register and all hidden state its reset value, keeps LMEM, and emits `TxClose`
exactly when a transfer was in flight. -/
def Obligations.SresetRestoresEverythingButLmem : Prop :=
  ∀ s : State, ∃ t, exec .sreset s = .next t ∧
    (∀ a, t.byteAt a = s.byteAt a) ∧ t.params = s.params ∧
    t.code = .ok ∧ t.res0 = 0 ∧ t.res1 = 0 ∧ t.arg0 = 0 ∧ t.arg1 = 0 ∧ t.arg2 = 0 ∧ t.arg3 = 0 ∧
    t.bf.recBase = 0 ∧ t.bf.maskBase = 0 ∧ t.bf.recSize = 0 ∧
    t.ecdh.d = 0 ∧ t.ecdh.q = zeros 64 ∧ t.ecdh.ss = zeros 32 ∧ t.ecdhStatusWord = 0 ∧
    t.xfer.chunk = 4096 ∧ t.xfer.timeout = 1000 ∧ t.xferStatusWord = 0 ∧ t.xfer.size = 0 ∧
    t.xfer.off = 0 ∧ t.xfer.last = 0 ∧ t.digest = zeros 32 ∧
    t.schCtrlWord = 0 ∧ t.schStatusWord = 0 ∧ t.pskBytes = zeros 16 ∧ t.sch.sess = [] ∧
    t.env = { s.env with
      out := s.env.out ++
        (if s.xfer.state = .waitHdrAck ∨ s.xfer.state = .waitChunkAck ∨ s.xfer.state = .waitTrailerReply
         then [Output.txClose] else []) }

/-- R370, R371, R372: a hardware reset gives the reset values, emits nothing, and leaves no byte of LMEM
known: an unwritten byte then reads as the free value of log 3, which is another one after each reset, since the
count of resets is one more than before. -/
def Obligations.HardwareResetEmitsNothing : Prop :=
  ∀ (s : State) (rest : List Input), s.env.inputs = .hwReset :: rest →
    ∃ t, Machine.step s = .next t ∧
      { t with env := State.reset.env, params := State.reset.params } = State.reset ∧
      t.params = s.params ∧
      t.env = { s.env with inputs := rest, lmemEpoch := s.env.lmemEpoch + 1 } ∧
      ∀ a, t.byteAt a = Config.lmemByte t.env.lmemEpoch a

/-! ## CRC unit -/

/-- R134: `CRC32` of a range inside LMEM, and `ERR_ADDR` outside; the empty range gives 0. -/
def Obligations.Crc32ReportsTheCrcOfTheRange : Prop :=
  (∀ s : State, s.arg0.toNat + s.arg1.toNat ≤ s.params.lmemSize →
    exec .crc32 s = .next { s with code := .ok, res0 := crc32 (s.memRead s.arg0.toNat s.arg1.toNat),
                                   res1 := 0 }) ∧
  (∀ s : State, s.params.lmemSize < s.arg0.toNat + s.arg1.toNat →
    exec .crc32 s = .next { s with code := .errAddr, res0 := 0, res1 := 0 }) ∧
  crc32 [] = 0x00000000

/-- R133: the table form of the loop body, with the entries the rule lists. -/
def Obligations.CrcTableForm : Prop :=
  (∀ (c : Word) (b : Byte),
    crcByte c b = (c >>> 8) ^^^ crcBits 8 ((c ^^^ b.setWidth 32) &&& 0x000000FF)) ∧
  crcBits 8 0 = 0x00000000 ∧ crcBits 8 1 = 0x77073096 ∧ crcBits 8 2 = 0xEE0E612C ∧
  crcBits 8 3 = 0x990951BA ∧ crcBits 8 4 = 0x076DC419 ∧ crcBits 8 5 = 0x706AF48F ∧
  crcBits 8 6 = 0xE963A535 ∧ crcBits 8 7 = 0x9E6495A3 ∧ crcBits 8 128 = 0xEDB88320 ∧
  crcBits 8 255 = 0x2D02EF8D

/-- R135(c): the residue law. -/
def Obligations.CrcResidue : Prop :=
  ∀ b : Bytes, crc32 (b ++ toLE32 (crc32 b)) = 0x2144DF1C

/-! ## Bit-field unit -/

/-- R152: which code a bit-field command that fails a check ends with, by the order of the checks. -/
def Obligations.BitFieldChecksInOrder : Prop :=
  ∀ s : State,
    let pos := s.arg1.toNat % 256
    let len := s.arg1.toNat / 256 % 256
    let rb := s.bf.recBase.toNat
    let mb := s.bf.maskBase.toNat
    let sz := s.bf.recSize.toNat
    let badDesc := s.arg1.toNat / 65536 ≠ 0 ∨ 31 < pos ∨ len = 0 ∨ 32 < len ∨ 32 < pos + len
    let overlap := sz ≠ 0 ∧ mb < rb + sz ∧ rb < mb + sz
    let recOut := s.params.lmemSize < rb + sz
    let maskOut := s.params.lmemSize < mb + sz
    let wordOut := sz < s.arg0.toNat + 4
    ((badDesc ∨ overlap) → exec .bfpack s = .next (ErrorState s .errArg)) ∧
    (¬ (badDesc ∨ overlap) → (recOut ∨ maskOut ∨ wordOut) →
      exec .bfpack s = .next (ErrorState s .errAddr)) ∧
    (badDesc → exec .bfunpack s = .next (ErrorState s .errArg)) ∧
    (¬ badDesc → (recOut ∨ wordOut) → exec .bfunpack s = .next (ErrorState s .errAddr)) ∧
    (overlap → exec .bfclear s = .next (ErrorState s .errArg)) ∧
    (¬ overlap → (recOut ∨ maskOut) → exec .bfclear s = .next (ErrorState s .errAddr))

/-- R153 with R151: `BFPACK` clears the field, ORs in the shifted value (not masked to the field's length),
marks the field in the mask buffer, reports both words, and changes no other byte and no other state. -/
def Obligations.BfpackWritesFieldAndMask : Prop :=
  ∀ (s : State) (pos len : Nat),
    s.arg1.toNat = pos + 256 * len → pos ≤ 31 → 1 ≤ len → pos + len ≤ 32 →
    (s.bf.recBase.toNat + s.bf.recSize.toNat ≤ s.bf.maskBase.toNat ∨
      s.bf.maskBase.toNat + s.bf.recSize.toNat ≤ s.bf.recBase.toNat) →
    s.bf.recBase.toNat + s.bf.recSize.toNat ≤ s.params.lmemSize →
    s.bf.maskBase.toNat + s.bf.recSize.toNat ≤ s.params.lmemSize →
    s.arg0.toNat + 4 ≤ s.bf.recSize.toNat →
    let fm : Word := BitVec.ofNat 32 ((2 ^ len - 1) * 2 ^ pos)
    let ra := s.bf.recBase.toNat + s.arg0.toNat
    let ma := s.bf.maskBase.toNat + s.arg0.toNat
    ∃ t, exec .bfpack s = .next t ∧ OnlyResultsAndLmemChange s t ∧ t.code = .ok ∧
      t.wordAt ra = ((s.wordAt ra &&& ~~~ fm) ||| (s.arg2 <<< pos)) ∧ t.res0 = t.wordAt ra ∧
      t.wordAt ma = (s.wordAt ma ||| fm) ∧ t.res1 = t.wordAt ma ∧
      LmemSameOutsideTwo s t ra ma 4

/-- R154: `BFUNPACK` reports the field of the record word; it writes no byte. -/
def Obligations.BfunpackReadsTheField : Prop :=
  ∀ (s : State) (pos len : Nat),
    s.arg1.toNat = pos + 256 * len → pos ≤ 31 → 1 ≤ len → pos + len ≤ 32 →
    s.bf.recBase.toNat + s.bf.recSize.toNat ≤ s.params.lmemSize →
    s.arg0.toNat + 4 ≤ s.bf.recSize.toNat →
    exec .bfunpack s = .next
      { s with code := .ok, res1 := 0,
               res0 := BitVec.ofNat 32
                 ((s.wordAt (s.bf.recBase.toNat + s.arg0.toNat)).toNat / 2 ^ pos % 2 ^ len) }

/-- R155: `BFCLEAR` zeroes the record and the mask buffer and nothing else. -/
def Obligations.BfclearZeroesBothRegions : Prop :=
  ∀ s : State,
    (s.bf.recSize = 0 ∨ s.bf.recBase.toNat + s.bf.recSize.toNat ≤ s.bf.maskBase.toNat ∨
      s.bf.maskBase.toNat + s.bf.recSize.toNat ≤ s.bf.recBase.toNat) →
    s.bf.recBase.toNat + s.bf.recSize.toNat ≤ s.params.lmemSize →
    s.bf.maskBase.toNat + s.bf.recSize.toNat ≤ s.params.lmemSize →
    ∃ t, exec .bfclear s = .next t ∧ OnlyResultsAndLmemChange s t ∧
      t.code = .ok ∧ t.res0 = 0 ∧ t.res1 = 0 ∧
      t.memRead s.bf.recBase.toNat s.bf.recSize.toNat = zeros s.bf.recSize.toNat ∧
      t.memRead s.bf.maskBase.toNat s.bf.recSize.toNat = zeros s.bf.recSize.toNat ∧
      LmemSameOutsideTwo s t s.bf.recBase.toNat s.bf.maskBase.toNat s.bf.recSize.toNat

/-- From R153 and R154, as the spec infers ("Round trip. For a legal descriptor and offset ...", R156): `BFPACK` of
`v` and then `BFUNPACK` with the same offset and descriptor gives `v mod 2^len`. -/
def Obligations.BitFieldRoundTrip : Prop :=
  ∀ s t u : State, exec .bfpack s = .next t → t.code = .ok → exec .bfunpack t = .next u →
    u.code = .ok ∧ u.res0.toNat = s.arg2.toNat % 2 ^ (s.arg1.toNat / 256 % 256)

/-- From R153, as the spec infers ("Frame rule.", R158): with a value that fits, `BFPACK` changes of the record word
only the field's bits, and of the mask word only the same bits, from 0 to 1; no other byte changes. -/
def Obligations.BfpackChangesOnlyTheField : Prop :=
  ∀ s t : State, exec .bfpack s = .next t → t.code = .ok →
    s.arg2.toNat < 2 ^ (s.arg1.toNat / 256 % 256) →
    let pos := s.arg1.toNat % 256
    let len := s.arg1.toNat / 256 % 256
    let ra := s.bf.recBase.toNat + s.arg0.toNat
    let ma := s.bf.maskBase.toNat + s.arg0.toNat
    LmemSameOutsideTwo s t ra ma 4 ∧ ∀ j, j < 32 →
      (¬ (pos ≤ j ∧ j < pos + len) →
        (t.wordAt ra).getLsbD j = (s.wordAt ra).getLsbD j ∧
        (t.wordAt ma).getLsbD j = (s.wordAt ma).getLsbD j) ∧
      (pos ≤ j ∧ j < pos + len → (t.wordAt ma).getLsbD j = true)

/-! ## AES unit -/

/-- R177: the block cipher and its inverse undo each other under every key. -/
def Obligations.AesBlockCiphersAreInverse : Prop :=
  ∀ k x : Bytes, k.length = 16 → x.length = 16 →
    aesDecBlock k (aesEncBlock k x) = x ∧ aesEncBlock k (aesDecBlock k x) = x

/-- From R180 to R183, as the spec infers ("Round trip.", R187; "Loss.", R188): a plaintext without a zero byte
comes back whole; from the first zero byte on it is lost. -/
def Obligations.CbcRoundTrip : Prop :=
  ∀ k p q : Bytes, k.length = 16 → (∀ x ∈ p, x ≠ 0) →
    cbcDec k (cbcEnc k p) = p ∧ cbcDec k (cbcEnc k (p ++ 0 :: q)) = p

/-- From R180, as the spec infers ("Equal prefixes show.", R189): under one key, plaintexts whose first `16j` bytes
are equal give ciphertexts whose first `16j` bytes are equal. -/
def Obligations.EqualPrefixesShow : Prop :=
  ∀ (k p q : Bytes) (j : Nat), k.length = 16 → 16 * j ≤ p.length → 16 * j ≤ q.length →
    p.take (16 * j) = q.take (16 * j) → (cbcEnc k p).take (16 * j) = (cbcEnc k q).take (16 * j)

/-- R185 with R184: the two forms of `AESENC` on operands that pass the checks: the padded ciphertext stands at
`ARG2`, no other byte changes; the `KSEL = 1` form takes the first half of the secret and empties the
session. `RES0` is the padded length; that it is taken modulo `2^32`, for an LMEM larger than R8 allows, is the
model's choice (log 20). -/
def Obligations.AesencEncryptsTheRange : Prop :=
  ∀ s : State,
    let n := s.arg1.toNat
    let m := (n + 15) / 16 * 16
    s.arg0.toNat + n ≤ s.params.lmemSize → s.arg2.toNat + m ≤ s.params.lmemSize →
    (s.arg3.toNat + 16 ≤ s.params.lmemSize →
      ∃ t, exec .aesenc s = .next t ∧ OnlyResultsAndLmemChange s t ∧ t.code = .ok ∧
        t.res0.toNat = m % 2 ^ 32 ∧ t.res1 = 0 ∧
        t.memRead s.arg2.toNat m = cbcEnc (s.memRead s.arg3.toNat 16) (s.memRead s.arg0.toNat n) ∧
        LmemSameOutside s t s.arg2.toNat m) ∧
    (s.ecdh.ssValid = true → s.ecdh.ss.length = 32 →
      ∃ t, exec .aesencS s = .next t ∧
        OnlyResultsAndLmemChange { s with ecdh := EcdhSession.empty } t ∧ t.code = .ok ∧
        t.res0.toNat = m % 2 ^ 32 ∧ t.res1 = 0 ∧
        t.memRead s.arg2.toNat m = cbcEnc (s.ecdh.ss.take 16) (s.memRead s.arg0.toNat n) ∧
        LmemSameOutside s t s.arg2.toNat m)

/-- R186 with R184: the two forms of `AESDEC` on operands that pass the checks: only the bytes before the first
NUL are written. -/
def Obligations.AesdecDecryptsAndTruncates : Prop :=
  ∀ s : State,
    s.arg0.toNat + s.arg1.toNat ≤ s.params.lmemSize → s.arg2.toNat + s.arg1.toNat ≤ s.params.lmemSize →
    s.arg1.toNat % 16 = 0 →
    (s.arg3.toNat + 16 ≤ s.params.lmemSize →
      let p := nulTrunc (cbcDecRaw (s.memRead s.arg3.toNat 16) (s.memRead s.arg0.toNat s.arg1.toNat))
      ∃ t, exec .aesdec s = .next t ∧ OnlyResultsAndLmemChange s t ∧ t.code = .ok ∧
        t.res0.toNat = p.length ∧ t.res1 = s.arg1 ∧ p.length ≤ s.arg1.toNat ∧
        t.memRead s.arg2.toNat p.length = p ∧ LmemSameOutside s t s.arg2.toNat p.length) ∧
    (s.ecdh.ssValid = true →
      let p := nulTrunc (cbcDecRaw (s.ecdh.ss.take 16) (s.memRead s.arg0.toNat s.arg1.toNat))
      ∃ t, exec .aesdecS s = .next t ∧
        OnlyResultsAndLmemChange { s with ecdh := EcdhSession.empty } t ∧ t.code = .ok ∧
        t.res0.toNat = p.length ∧ t.res1 = s.arg1 ∧ p.length ≤ s.arg1.toNat ∧
        t.memRead s.arg2.toNat p.length = p ∧ LmemSameOutside s t s.arg2.toNat p.length)

/-- R185, R186, R346: the error completions of the four AES commands in the order of their checks; `AESDEC.S`
ending with `ERR_CRYPTO_LEN` discards the session. -/
def Obligations.AesChecksInOrder : Prop :=
  ∀ s : State,
    let n := s.arg1.toNat
    let m := (n + 15) / 16 * 16
    let srcOut := s.params.lmemSize < s.arg0.toNat + n
    let encOut := s.params.lmemSize < s.arg2.toNat + m
    let decOut := s.params.lmemSize < s.arg2.toNat + n
    let keyOut := s.params.lmemSize < s.arg3.toNat + 16
    ((srcOut ∨ encOut ∨ keyOut) → exec .aesenc s = .next (ErrorState s .errAddr)) ∧
    ((srcOut ∨ encOut) → exec .aesencS s = .next (ErrorState s .errAddr)) ∧
    (¬ (srcOut ∨ encOut) → s.ecdh.ssValid = false →
      exec .aesencS s = .next (ErrorState s .errCryptoNoSession)) ∧
    ((srcOut ∨ decOut ∨ keyOut) → exec .aesdec s = .next (ErrorState s .errAddr)) ∧
    (¬ (srcOut ∨ decOut ∨ keyOut) → n % 16 ≠ 0 →
      exec .aesdec s = .next (ErrorState s .errCryptoLen)) ∧
    ((srcOut ∨ decOut) → exec .aesdecS s = .next (ErrorState s .errAddr)) ∧
    (¬ (srcOut ∨ decOut) → s.ecdh.ssValid = false →
      exec .aesdecS s = .next (ErrorState s .errCryptoNoSession)) ∧
    (¬ (srcOut ∨ decOut) → s.ecdh.ssValid = true → n % 16 ≠ 0 →
      exec .aesdecS s = .next { ErrorState s .errCryptoLen with ecdh := EcdhSession.empty })

/-! ## ECDH unit -/

/-- R207: what a valid peer key is. -/
def Obligations.PeerKeyValidity : Prop :=
  ∀ b : Bytes, validPeer b = true ↔
    b.length = 64 ∧ be256 (b.take 32) ≤ p256P - 1 ∧ be256 (b.drop 32) ≤ p256P - 1 ∧
      (be256 (b.drop 32)) ^ 2 % p256P =
        ((be256 (b.take 32)) ^ 3 + p256A * be256 (b.take 32) + p256B) % p256P

/-- R212 with R48: `ECDHGEN` draws a scalar of `{1, …, n-1}` (the one a `draw` line has fixed, if any), holds the
key pair, has no secret, and writes the public key at `ARG0`; outside LMEM it ends with `ERR_ADDR` and draws
nothing. -/
def Obligations.EcdhgenMakesAKeyPair : Prop :=
  (∀ s : State, s.arg0.toNat + 64 ≤ s.params.lmemSize →
    ∃ (d : Nat) (t : State), exec .ecdhgen s = .next t ∧ 1 ≤ d ∧ d ≤ p256N - 1 ∧
      (∀ e rest, s.env.draws = e :: rest → 1 ≤ e.toNat → e.toNat ≤ p256N - 1 →
        d = e.toNat ∧ t.env.draws = rest) ∧
      t.ecdh.d.toNat = d ∧ t.ecdh.q = pubKey d ∧ t.ecdh.ss = zeros 32 ∧ t.ecdhStatusWord = 1 ∧
      t.memRead s.arg0.toNat 64 = pubKey d ∧ LmemSameOutside s t s.arg0.toNat 64 ∧
      t.code = .ok ∧ t.res0 = 64 ∧ t.res1 = 0 ∧ t.env.out = s.env.out ∧
      OnlyResultsAndLmemChange { s with ecdh := t.ecdh, env := t.env } t) ∧
  (∀ s : State, s.params.lmemSize < s.arg0.toNat + 64 →
    exec .ecdhgen s = .next (ErrorState s .errAddr))

/-- R213, R210: `ECDHDERIVE` in the order of its checks. Not keyed, or a secret already held: `ERR_STATE`; a
range outside LMEM: `ERR_ADDR`; a peer key that is not valid: `ERR_CRYPTO_PEERKEY`, and the session is empty;
else the secret is held and written at `ARG2`. -/
def Obligations.EcdhderiveSharesTheSecret : Prop :=
  ∀ s : State,
    let keyed := s.ecdh.keyValid = true ∧ s.ecdh.ssValid = false
    let out := s.params.lmemSize < s.arg0.toNat + s.arg1.toNat ∨ s.params.lmemSize < s.arg2.toNat + 32
    let b := s.memRead s.arg0.toNat s.arg1.toNat
    let z := sharedSecret s.ecdh.d.toNat b
    (¬ keyed → exec .ecdhderive s = .next (ErrorState s .errState)) ∧
    (keyed → out → exec .ecdhderive s = .next (ErrorState s .errAddr)) ∧
    (keyed → ¬ out → validPeer b = false →
      exec .ecdhderive s =
        .next { ErrorState s .errCryptoPeerKey with ecdh := EcdhSession.empty }) ∧
    (keyed → ¬ out → validPeer b = true →
      ∃ t, exec .ecdhderive s = .next t ∧ t.ecdh = { s.ecdh with ss := z, ssValid := true } ∧
        t.ecdhStatusWord = 3 ∧ t.memRead s.arg2.toNat 32 = z ∧ LmemSameOutside s t s.arg2.toNat 32 ∧
        t.code = .ok ∧ t.res0 = 32 ∧ t.res1 = 0 ∧
        OnlyResultsAndLmemChange { s with ecdh := t.ecdh } t)

/-- R214, R215: `ECDHDISCARD` zeroes the session in every state. -/
def Obligations.EcdhdiscardEmptiesTheSession : Prop :=
  encode .ecdhdiscard = .command 0x00000022 ∧ ∀ s : State, exec .ecdhdiscard s = .next
    { s with code := .ok, res0 := 0, res1 := 0,
             ecdh := { d := 0, q := zeros 64, ss := zeros 32, keyValid := false, ssValid := false } }

/-! ## Transfer unit -/

/-- R270: `XFERSTART` in a resting state sends the header and reports the number of data frames. -/
def Obligations.XferstartSendsTheHeader : Prop :=
  (∀ s : State, (s.xfer.state = .idle ∨ s.xfer.state = .done ∨ s.xfer.state = .failed) →
    1 ≤ s.xfer.chunk.toNat → s.xfer.chunk.toNat ≤ 65535 →
    ∃ t, exec .xferstart s = .next t ∧
      t = { s with code := .ok, res0 := t.res0, res1 := 0,
                   xfer := { s.xfer with size := s.arg0, off := 0, last := 0, err := .none,
                                         state := .waitHdrAck },
                   env := { s.env with
                     out := s.env.out ++ [.tx ([0xF0, 0x00, 0x04, 0x00] ++ toLE32 s.arg0)] } } ∧
      s.arg0.toNat ≤ t.res0.toNat * s.xfer.chunk.toNat ∧
      t.res0.toNat * s.xfer.chunk.toNat < s.arg0.toNat + s.xfer.chunk.toNat) ∧
  (∀ s : State, (s.xfer.state = .waitHdrAck ∨ s.xfer.state = .waitChunkAck ∨
      s.xfer.state = .waitTrailerReply) → exec .xferstart s = .next (ErrorState s .errState)) ∧
  (∀ s : State, (s.xfer.state = .idle ∨ s.xfer.state = .done ∨ s.xfer.state = .failed) →
    (s.xfer.chunk = 0 ∨ 65535 < s.xfer.chunk.toNat) →
      exec .xferstart s = .next (ErrorState s .errArg))

/-- R281: `XFERABORT` fails a transfer in flight with `ERR` 6 and closes; in a resting state it goes to `IDLE`
with no error and emits nothing. -/
def Obligations.XferabortCancelsOrClears : Prop :=
  encode .xferabort = .command 0x00000031 ∧
  (∀ s : State, (s.xfer.state = .waitHdrAck ∨ s.xfer.state = .waitChunkAck ∨
      s.xfer.state = .waitTrailerReply) →
    exec .xferabort s = .next
      { s with code := .ok, res0 := 0, res1 := 0,
               xfer := { s.xfer with err := .aborted, state := .failed },
               env := { s.env with out := s.env.out ++ [.txClose] } }) ∧
  (∀ s : State, (s.xfer.state = .idle ∨ s.xfer.state = .done ∨ s.xfer.state = .failed) →
    exec .xferabort s = .next
      { s with code := .ok, res0 := 0, res1 := 0, xfer := { s.xfer with err := .none, state := .idle } })

/-- R272, R273, R276: an "OK" while bytes of the file remain: one file read at `XFER_OFF`, one data frame of
`min(XFER_CHUNK, XFER_SIZE - XFER_OFF)` bytes, the counters advanced. The reply comes as `RxReply` or as
`OkReply`. The presented file (log 5) holds the bytes. -/
def Obligations.OkReplySendsTheNextChunk : Prop :=
  ∀ s : State, (s.xfer.state = .waitHdrAck ∨ s.xfer.state = .waitChunkAck) →
    1 ≤ s.xfer.chunk.toNat → s.xfer.chunk.toNat ≤ 65535 →
    s.xfer.off.toNat < s.xfer.size.toNat → s.xfer.size.toNat ≤ s.env.file.length →
    let n := min s.xfer.chunk.toNat (s.xfer.size.toNat - s.xfer.off.toNat)
    let k := (s.env.file.drop s.xfer.off.toNat).take n
    ∃ t, exec .okReply s = .next t ∧ exec (.rxReply [0x4F, 0x4B]) s = .next t ∧
      t.xfer = { s.xfer with off := s.xfer.off + BitVec.ofNat 32 n, last := BitVec.ofNat 32 n,
                             state := .waitChunkAck } ∧
      t.xfer.off.toNat = s.xfer.off.toNat + n ∧ k.length = n ∧
      t.env.out = s.env.out ++
        [.fileRead s.xfer.off.toNat n k,
         .tx ([0xF1, 0x00, BitVec.ofNat 8 n, BitVec.ofNat 8 (n / 256)] ++ k)] ∧
      t = { s with xfer := t.xfer,
                   env := { s.env with out := t.env.out, freeCount := t.env.freeCount } }

/-- R276, R279: an "OK" when every byte has been sent: the trailer, and no file read. -/
def Obligations.OkReplyAtTheEndSendsTheTrailer : Prop :=
  ∀ s : State, (s.xfer.state = .waitHdrAck ∨ s.xfer.state = .waitChunkAck) → s.xfer.off = s.xfer.size →
    ∀ i ∈ [Instr.okReply, .rxReply [0x4F, 0x4B]],
      exec i s = .next
        { s with xfer := { s.xfer with state := .waitTrailerReply },
                 env := { s.env with out := s.env.out ++ [.tx [0xF2, 0x00, 0x00, 0x00]] } }

/-- R272, R273, R274, R266: every reply that is not what a waiting state asks for fails the transfer with the
error of its phase, emits `TxClose` and nothing else, and keeps the counters. -/
def Obligations.WrongReplyFailsTheTransfer : Prop :=
  ∀ (s : State) (r : Bytes), r.length ≤ 66 →
    (s.xfer.state = .waitHdrAck → r ≠ [0x4F, 0x4B] →
      exec (.rxReply r) s = .next
        { s with xfer := { s.xfer with err := .error1, state := .failed },
                 env := { s.env with out := s.env.out ++ [.txClose] } }) ∧
    (s.xfer.state = .waitChunkAck → r ≠ [0x4F, 0x4B] →
      exec (.rxReply r) s = .next
        { s with xfer := { s.xfer with err := .error2, state := .failed },
                 env := { s.env with out := s.env.out ++ [.txClose] } }) ∧
    (s.xfer.state = .waitTrailerReply → r.take 2 ≠ [0x4F, 0x4B] →
      exec (.rxReply r) s = .next
        { s with xfer := { s.xfer with err := .error3, state := .failed },
                 env := { s.env with out := s.env.out ++ [.txClose] } })

/-- R274, R282, R107: a trailer reply whose hexadecimal digits are the digest of `XFER_HASH` ends the transfer;
one whose rest is anything else fails it with `Error4`. The first clause says which bytes are digits, of either
case, and what each stands for. -/
def Obligations.TrailerReplyIsCheckedAgainstTheDigest : Prop :=
  (∀ (b : Byte) (x : Nat), hexVal b = some x ↔
    (0x30 ≤ b.toNat ∧ b.toNat ≤ 0x39 ∧ b.toNat = 0x30 + x) ∨
    (0x41 ≤ b.toNat ∧ b.toNat ≤ 0x46 ∧ b.toNat + 10 = 0x41 + x) ∨
    (0x61 ≤ b.toNat ∧ b.toNat ≤ 0x66 ∧ b.toNat + 10 = 0x61 + x)) ∧
  ∀ (s : State) (h : Bytes), s.xfer.state = .waitTrailerReply → h.length ≤ 64 →
    (h.length = 64 ∧ (∀ k, k < 32 → ∃ x y, hexVal (h.getD (2 * k) 0) = some x ∧
        hexVal (h.getD (2 * k + 1) 0) = some y ∧ s.digest.getD k 0 = BitVec.ofNat 8 (16 * x + y)) →
      exec (.trailerReply h) s = .next
        { s with xfer := { s.xfer with state := .done },
                 env := { s.env with out := s.env.out ++
                   [.tx [0x63, 0x68, 0x65, 0x63, 0x6B, 0x20, 0x68, 0x61, 0x73, 0x68], .txClose] } }) ∧
    (¬ (h.length = 64 ∧ (∀ k, k < 32 → ∃ x y, hexVal (h.getD (2 * k) 0) = some x ∧
        hexVal (h.getD (2 * k + 1) 0) = some y ∧ s.digest.getD k 0 = BitVec.ofNat 8 (16 * x + y))) →
      exec (.trailerReply h) s = .next
        { s with xfer := { s.xfer with err := .error4, state := .failed },
                 env := { s.env with out := s.env.out ++ [.txClose] } })

/-- R275, R277: in a resting state a reply and a timeout are dropped; in a waiting state a timeout fails the
transfer with `ERR` 5. -/
def Obligations.TimeoutFailsAndRestingStatesDrop : Prop :=
  (∀ s : State, (s.xfer.state = .waitHdrAck ∨ s.xfer.state = .waitChunkAck ∨
      s.xfer.state = .waitTrailerReply) →
    exec .rxTimeout s = .next
      { s with xfer := { s.xfer with err := .timeout, state := .failed },
               env := { s.env with out := s.env.out ++ [.txClose] } }) ∧
  (∀ (s : State) (r : Bytes), (s.xfer.state = .idle ∨ s.xfer.state = .done ∨ s.xfer.state = .failed) →
    exec .rxTimeout s = .next s ∧ (r.length ≤ 66 → exec (.rxReply r) s = .next s))

/-- From R270 to R276, as the spec infers ("Output of a successful transfer.", R284): a whole transfer. From a
resting state with a legal chunk size, with the source file of `ARG0` bytes presented (log 5), `XFERSTART`, then an
"OK" for the header and for each data frame, then a trailer reply whose digits are the digest: the TX and FILE
records are the header, then for each chunk its read and its frame, the trailer, "check hash" and the close, and the
machine ends in `DONE` with every byte sent. -/
def Obligations.WholeTransferSendsTheFile : Prop :=
  ∀ (s : State) (h : Bytes),
    (s.xfer.state = .idle ∨ s.xfer.state = .done ∨ s.xfer.state = .failed) →
    1 ≤ s.xfer.chunk.toNat → s.xfer.chunk.toNat ≤ 65535 → s.env.file.length = s.arg0.toNat →
    hexDecode32 h = some s.digest →
    let cs := s.xfer.chunk.toNat
    let nf := (s.arg0.toNat + (cs - 1)) / cs
    ∃ t, runInstrs (.xferstart :: (List.replicate (nf + 1) .okReply ++ [.trailerReply h])) s = .next t ∧
      t.xfer.state = .done ∧ t.xfer.err = .none ∧ t.xfer.off = s.arg0 ∧ t.xfer.size = s.arg0 ∧
      t.env.out = s.env.out ++ [.tx (hdrFrameBytes s.arg0)] ++
        ((List.range nf).flatMap fun j =>
          [.fileRead (j * cs) (fileChunk s.env.file cs j).length (fileChunk s.env.file cs j),
           .tx (dataFrameBytes (fileChunk s.env.file cs j))]) ++
        [.tx trailerFrameBytes, .tx finalAckBytes, .txClose] ∧
      ((List.range nf).flatMap fun j => fileChunk s.env.file cs j) = s.env.file

/-- R271: a reply or timeout writes only `XFER_STATUS`, `XFER_OFF` and `XFER_LAST` of the block's state. -/
def Obligations.ReplyEventsWriteOnlyTheTransferUnit : Prop :=
  ∀ (s t : State) (r h : Bytes) (i : Instr), i ∈ [Instr.rxReply r, .rxTimeout, .okReply, .trailerReply h] →
    exec i s = .next t →
      t = { s with xfer := { s.xfer with state := t.xfer.state, err := t.xfer.err, off := t.xfer.off,
                                         last := t.xfer.last },
                   env := { s.env with out := t.env.out, freeCount := t.env.freeCount } }

/-! ## Secure channel -/

/-- R234, R235: in mode `OFF` a datagram is its own payload; in mode `PSK` one of whole blocks is decrypted
under the pre-shared key, any other is `ERR_CRYPTO_LEN` and emits nothing. A `"csk:"` datagram is treated
alike. That a `CipherDatagram`, of any length, is the `DgIn` of its bytes is the model's choice (log 10), here and
below. -/
def Obligations.DatagramWithoutHandshake : Prop :=
  ∀ (s : State) (c : Cid) (d : Bytes) (i : Instr), i ∈ [Instr.dgIn c d, .cipherDatagram c d] →
    d.length ≤ 1024 →
    (s.sch.mode = .off → exec i s = .next
      { s with sch := { s.sch with last := .ok },
               env := { s.env with out := s.env.out ++ [.payload c d] } }) ∧
    (s.sch.mode = .psk → d.length % 16 = 0 → exec i s = .next
      { s with sch := { s.sch with last := .ok },
               env := { s.env with out := s.env.out ++
                 [.payload c (nulTrunc (cbcDecRaw (bytesOfRegs s.sch.psk.toList) d))] } }) ∧
    (s.sch.mode = .psk → d.length % 16 ≠ 0 → exec i s = .next
      { s with sch := { s.sch with last := .errCryptoLen } })

/-- R236 with R48 and R42: in mode `ECDH` a hello of a valid key from a client without a session, with room in
the table, opens one session under the first half of the shared secret and answers `"ssk:"` and the public
key; the host's own ECDH session and everything else stay. -/
def Obligations.HelloOpensASession : Prop :=
  ∀ (s : State) (c : Cid) (x y : Num256), s.sch.mode = .ecdh → findSession s.sch.sess c = none →
    validPeer (toBE256 x.toNat ++ toBE256 y.toNat) = true → s.sch.sess.length < s.params.nsess →
    ∃ (d : Nat) (t : State), exec (.helloDatagram c x y) s = .next t ∧
      exec (.dgIn c ([0x63, 0x73, 0x6B, 0x3A] ++ toBE256 x.toNat ++ toBE256 y.toNat)) s = .next t ∧
      1 ≤ d ∧ d ≤ p256N - 1 ∧
      (∀ e rest, s.env.draws = e :: rest → 1 ≤ e.toNat → e.toNat ≤ p256N - 1 → d = e.toNat) ∧
      findSession t.sch.sess c =
        some ((sharedSecret d (toBE256 x.toNat ++ toBE256 y.toNat)).take 16) ∧
      (∀ c', c' ≠ c → findSession t.sch.sess c' = findSession s.sch.sess c') ∧
      t.nactive = s.nactive + 1 ∧ t.sch.last = .ok ∧ t.sch.mode = s.sch.mode ∧ t.sch.psk = s.sch.psk ∧
      t.env.out = s.env.out ++ [.dgOut c ([0x73, 0x73, 0x6B, 0x3A] ++ pubKey d)] ∧
      t = { s with sch := t.sch,
                   env := { s.env with out := t.env.out, draws := s.env.draws.tail,
                                       freeCount := t.env.freeCount } }

/-- R236, R239: in mode `ECDH`, from a client without a session, a hello whose key is not valid, a hello while
the table is full, and a datagram that is no hello change only `LASTCODE`, emit nothing and draw nothing. -/
def Obligations.RefusedDatagramsChangeOnlyLastcode : Prop :=
  ∀ (s : State) (c : Cid) (d : Bytes) (i : Instr), i ∈ [Instr.dgIn c d, .cipherDatagram c d] →
    d.length ≤ 1024 → s.sch.mode = .ecdh → findSession s.sch.sess c = none →
    (d.take 4 = [0x63, 0x73, 0x6B, 0x3A] → validPeer (d.drop 4) = false →
      exec i s = .next { s with sch := { s.sch with last := .errCryptoPeerKey } }) ∧
    (d.take 4 = [0x63, 0x73, 0x6B, 0x3A] → validPeer (d.drop 4) = true →
      s.params.nsess ≤ s.sch.sess.length →
      exec i s = .next { s with sch := { s.sch with last := .errCryptoFull } }) ∧
    (d.take 4 ≠ [0x63, 0x73, 0x6B, 0x3A] →
      exec i s = .next { s with sch := { s.sch with last := .errCryptoNoSession } })

/-- R237, R238: in mode `ECDH` whatever a client with a session sends next spends the session: whole blocks are
decrypted under its key and emitted, anything else (a second hello too) is `ERR_CRYPTO_LEN`. For `CipherDatagram`,
of any length, it is the model's choice (log 10). -/
def Obligations.PayloadSpendsTheSession : Prop :=
  ∀ (s : State) (c : Cid) (k d : Bytes), d.length ≤ 1024 → s.sch.mode = .ecdh →
    findSession s.sch.sess c = some k →
    ∃ rest, findSession rest c = none ∧
      (∀ c', c' ≠ c → findSession rest c' = findSession s.sch.sess c') ∧
      (d.length % 16 = 0 → ∀ i ∈ [Instr.dgIn c d, .cipherDatagram c d], exec i s = .next
        { s with sch := { s.sch with sess := rest, last := .ok },
                 env := { s.env with out := s.env.out ++ [.payload c (nulTrunc (cbcDecRaw k d))] } }) ∧
      (d.length % 16 ≠ 0 → ∀ i ∈ [Instr.dgIn c d, .cipherDatagram c d], exec i s = .next
        { s with sch := { s.sch with sess := rest, last := .errCryptoLen } })

/-- R244, R245: in mode `ECDH`, whatever a datagram of client `c` does, the other clients' sessions stay as they
were; and if it emits a payload, it is a payload of `c`, who had a session before and has none after. -/
def Obligations.SessionsAreSingleUseAndSeparate : Prop :=
  ∀ (s t : State) (c : Cid) (d e : Bytes) (x y : Num256) (i : Instr),
    i ∈ [Instr.dgIn c d, .helloDatagram c x y, .cipherDatagram c e] → s.sch.mode = .ecdh →
    exec i s = .next t →
    (∀ c', c' ≠ c → findSession t.sch.sess c' = findSession s.sch.sess c') ∧
    (∀ c' p, t.env.out = s.env.out ++ [.payload c' p] →
      c' = c ∧ findSession s.sch.sess c ≠ none ∧ findSession t.sch.sess c = none)

/-- R233: a datagram event writes only the session table and `SCH_STATUS` of the block's state. -/
def Obligations.DatagramEventsWriteOnlyTheChannel : Prop :=
  ∀ (s t : State) (c : Cid) (d e : Bytes) (x y : Num256) (i : Instr),
    i ∈ [Instr.dgIn c d, .helloDatagram c x y, .cipherDatagram c e] → exec i s = .next t →
      t = { s with sch := { s.sch with sess := t.sch.sess, last := t.sch.last },
                   env := { s.env with out := t.env.out, draws := t.env.draws,
                                       freeCount := t.env.freeCount } }

/-- R242: `SCHRESET` drops every session and clears `SCH_STATUS`; mode and pre-shared key stay. -/
def Obligations.SchresetDropsEverySession : Prop :=
  encode .schreset = .command 0x00000040 ∧ ∀ s : State, ∃ t, exec .schreset s = .next t ∧
    t = { s with code := .ok, res0 := 0, res1 := 0, sch := { s.sch with sess := [], last := .ok } } ∧
    t.schStatusWord = 0

/-! ## Output records -/

/-- R13, R44, R63, R99, R101 to R105 (log 9): the records of the TX, DG, PL and FILE ports go out after those
already put out, and nothing else changes; a data frame outside 1 to 65535 chunk bytes is refused. A file read
inside the presented file is answered with its bytes. -/
def Obligations.RecordsGoOutInOrder : Prop :=
  ∀ (s : State) (size : Word) (k : Bytes) (c : Cid) (x y : Num256) (p : Bytes) (o n : Word),
    let put := fun r : Output => { s with env := { s.env with out := s.env.out ++ [r] } }
    exec (.hdrFrame size) s = .next (put (.tx ([0xF0, 0x00, 0x04, 0x00] ++ toLE32 size))) ∧
    (1 ≤ k.length → k.length ≤ 65535 → exec (.dataFrame k) s = .next (put (.tx
      ([0xF1, 0x00, BitVec.ofNat 8 k.length, BitVec.ofNat 8 (k.length / 256)] ++ k)))) ∧
    (k.length = 0 ∨ 65535 < k.length → exec (.dataFrame k) s = .refused .outputBounds) ∧
    exec .trailerFrame s = .next (put (.tx [0xF2, 0x00, 0x00, 0x00])) ∧
    exec .finalAck s =
      .next (put (.tx [0x63, 0x68, 0x65, 0x63, 0x6B, 0x20, 0x68, 0x61, 0x73, 0x68])) ∧
    exec .txClose s = .next (put .txClose) ∧
    exec (.helloReplyDatagram c x y) s =
      .next (put (.dgOut c ([0x73, 0x73, 0x6B, 0x3A] ++ toBE256 x.toNat ++ toBE256 y.toNat))) ∧
    (p.length ≤ 1024 → exec (.payload c p) s = .next (put (.payload c p))) ∧
    (1 ≤ n.toNat → n.toNat ≤ 65535 → o.toNat + n.toNat ≤ s.xfer.size.toNat →
      s.xfer.size.toNat ≤ s.env.file.length →
      ∃ t, exec (.fileRead o n) s = .next t ∧
        t.env.out = s.env.out ++ [.fileRead o.toNat n.toNat ((s.env.file.drop o.toNat).take n.toNat)] ∧
        t = { s with env := { s.env with out := t.env.out, freeCount := t.env.freeCount } })

/-! ## Host accesses -/

/-- R24, R28, R37: a host write, at its offset from `BASE`, to a readable and writable register (`XFER_CHUNK` outside a transfer) and then a
read of it: the read returns the value written, and the state differs in that register, the pending operations and
the trace only (logs 1 and 6). -/
def Obligations.RegisterWriteThenRead : Prop :=
  ∀ (s : State) (off v : Word) (rest : List Input),
    off.toNat ∈ [0x08, 0x0C, 0x10, 0x14, 0x20, 0x24, 0x28, 0x30, 0x34, 0x48, 0x4C, 0x50, 0x54, 0x58, 0x5C,
      0x60, 0x64] →
    (off = 0x30 → s.xfer.state.waiting = false) →
    s.env.inputs = .write32 (s.params.base + off.toNat) v :: .read32 (s.params.base + off.toNat) :: rest →
    ∃ t, Host.Core.run Sys2Proof.core 2 s = .next t ∧
      (∀ k : Fin 8, t.xfer.hash[k] = if off.toNat = 0x48 + 4 * k.val then v else s.xfer.hash[k]) ∧
      t = { s with
        arg0 := if off = 0x08 then v else s.arg0
        arg1 := if off = 0x0C then v else s.arg1
        arg2 := if off = 0x10 then v else s.arg2
        arg3 := if off = 0x14 then v else s.arg3
        bf := { recBase := if off = 0x20 then v else s.bf.recBase
                maskBase := if off = 0x24 then v else s.bf.maskBase
                recSize := if off = 0x28 then v else s.bf.recSize }
        xfer := { s.xfer with chunk := if off = 0x30 then v else s.xfer.chunk
                              timeout := if off = 0x34 then v else s.xfer.timeout
                              hash := t.xfer.hash }
        env := { s.env with inputs := rest, out := s.env.out ++ [.hostRead32 (s.params.base + off.toNat) v] } }

/-- R24, R25, R27, R30, R33, R34, R36, R37: a host write to a read-only or reserved register changes nothing; a read
changes nothing but the pending operations and the trace (logs 1 and 6). A write-only or reserved register reads 0;
the results and counters read as they are; the status registers read as their fields at the places and with the
numbers of the rules. -/
def Obligations.ReadOnlyAndReservedOffsets : Prop :=
  ∀ (s : State) (off v : Word) (rest : List Input), off.toNat < 0x10000 → off.toNat % 4 = 0 →
    (off.toNat ∈ [0x04, 0x18, 0x1C, 0x2C, 0x38, 0x3C, 0x40, 0x44, 0x6C] ∨ 0x80 ≤ off.toNat →
      s.env.inputs = .write32 (s.params.base + off.toNat) v :: rest →
        Machine.step s = .next { s with env := { s.env with inputs := rest } }) ∧
    (s.env.inputs = .read32 (s.params.base + off.toNat) :: rest →
      ∃ r : Word, Machine.step s = .next
          { s with env := { s.env with
              inputs := rest, out := s.env.out ++ [.hostRead32 (s.params.base + off.toNat) r] } } ∧
        (off.toNat ∈ [0x00, 0x70, 0x74, 0x78, 0x7C] ∨ 0x80 ≤ off.toNat → r = 0) ∧
        (off = 0x04 → ∀ c ∈ codeNumbers, s.code = c.1 → r.toNat = c.2) ∧
        (off = 0x18 → r = s.res0) ∧ (off = 0x1C → r = s.res1) ∧
        (off = 0x2C → r.toNat = (if s.ecdh.keyValid then 1 else 0) + 2 * (if s.ecdh.ssValid then 1 else 0)) ∧
        (off = 0x38 → ∀ st ∈ xferStateNumbers, ∀ e ∈ xferErrNumbers,
          s.xfer.state = st.1 → s.xfer.err = e.1 → r.toNat = st.2 + 16 * e.2) ∧
        (off = 0x3C → r = s.xfer.size) ∧ (off = 0x40 → r = s.xfer.off) ∧ (off = 0x44 → r = s.xfer.last) ∧
        (off = 0x68 → ∀ m ∈ schModeNumbers, s.sch.mode = m.1 → r.toNat = m.2) ∧
        (off = 0x6C → ∀ c ∈ codeNumbers, s.sch.last = c.1 →
          r.toNat = c.2 + 256 * min s.sch.sess.length 255))

/-- R33, R243, R28, R35, R36: a write of mode 3 to `SCH_CTRL` is ignored; any other sets the mode, clears the session
table and keeps `LASTCODE`; a write to `XFER_CHUNK` in flight is ignored; a write to `SCH_PSKk` sets the key bytes
`4k` to `4k+3`, lowest byte first, and a write to `XFER_HASHk` those bytes of the digest; nothing else changes. -/
def Obligations.ControlRegisterWrites : Prop :=
  ∀ (s : State) (v : Word) (rest : List Input),
    (s.env.inputs = .write32 (s.params.base + 0x68) v :: rest → v.toNat % 4 = 3 →
      Machine.step s = .next { s with env := { s.env with inputs := rest } }) ∧
    (s.env.inputs = .write32 (s.params.base + 0x68) v :: rest → ∀ m ∈ schModeNumbers, v.toNat % 4 = m.2 →
      Machine.step s = .next { s with sch := { s.sch with mode := m.1, sess := [] },
                                      env := { s.env with inputs := rest } }) ∧
    (s.env.inputs = .write32 (s.params.base + 0x30) v :: rest → s.xfer.state.waiting = true →
      Machine.step s = .next { s with env := { s.env with inputs := rest } }) ∧
    (∀ k, k < 4 → s.env.inputs = .write32 (s.params.base + (0x70 + 4 * k)) v :: rest →
      ∃ t, Machine.step s = .next t ∧
        t = { s with sch := { s.sch with psk := t.sch.psk }, env := { s.env with inputs := rest } } ∧
        t.pskBytes.length = 16 ∧ ∀ j, j < 16 → t.pskBytes.getD j 0 =
          if 4 * k ≤ j ∧ j < 4 * k + 4 then BitVec.ofNat 8 (v.toNat / 2 ^ (8 * (j - 4 * k)))
          else s.pskBytes.getD j 0) ∧
    (∀ k, k < 8 → s.env.inputs = .write32 (s.params.base + (0x48 + 4 * k)) v :: rest →
      ∃ t, Machine.step s = .next t ∧
        t = { s with xfer := { s.xfer with hash := t.xfer.hash }, env := { s.env with inputs := rest } } ∧
        t.digest.length = 32 ∧ ∀ j, j < 32 → t.digest.getD j 0 =
          if 4 * k ≤ j ∧ j < 4 * k + 4 then BitVec.ofNat 8 (v.toNat / 2 ^ (8 * (j - 4 * k)))
          else s.digest.getD j 0)

/-- R61: a host byte write inside LMEM and then a read of the same byte returns it; every other byte and all that is
not LMEM stay, but for the pending operations and the trace (logs 1 and 6). At an offset beyond LMEM the operations
read 0 and write nothing (R61), and the step refuses the access (U14), in every state with legal parameters; that
both are kept is the model's choice (log 7). -/
def Obligations.LmemByteWriteThenRead : Prop :=
  ∀ (s : State) (a : Nat) (b : Byte) (rest : List Input), s.params.legal = true →
    let addr := s.params.base + (0x10000 + a)
    (a < s.params.lmemSize → s.env.inputs = .write8 addr b :: .read8 addr :: rest →
      ∃ t, Host.Core.run Sys2Proof.core 2 s = .next t ∧
        t = { s with lmem := t.lmem,
                     env := { s.env with inputs := rest, out := s.env.out ++ [.hostRead8 addr b] } } ∧
        t.byteAt a = b ∧ (∀ a', a' ≠ a → t.byteAt a' = s.byteAt a')) ∧
    (s.params.lmemSize ≤ a → s.hostWrite8 a b = s ∧ s.hostRead8 a = 0) ∧
    (s.params.lmemSize ≤ a →
      s.env.inputs = .write8 addr b :: rest ∨ s.env.inputs = .read8 addr :: rest →
      Machine.step s = .refused .busAccess)

/-- R356: what the host can read of the registers and of LMEM does not depend on the secret scalar, the public
key and secret held, the pre-shared key, or the session keys. -/
def Obligations.SecretsHaveNoReadPath : Prop :=
  ∀ (s : State) (d : Num256) (q z : Bytes) (psk : Vector Word 4) (keys : List Bytes) (off : Nat),
    let table := List.zipWith (fun e k => { e with key := k }) s.sch.sess keys
    let s' : State :=
      { s with ecdh := { s.ecdh with d := d, q := q, ss := z }, sch := { s.sch with psk := psk, sess := table } }
    s.sch.sess.length ≤ keys.length → s'.regRead off = s.regRead off ∧ s'.hostRead8 off = s.hostRead8 off
end

