-- ==== Sys2Proof/Laws/State.lean ====
section
/-! SUPPORT. What each update of the state leaves in each field, so that no proof unfolds a record update.
An update that changes part of a unit has one lemma for each field of that unit. -/

namespace Sys2Proof.Machine

/-! ## `memWrite` -/

@[simp] theorem State.memWrite_params (s : State) (a : Nat) (b : Bytes) :
    (s.memWrite a b).params = s.params := rfl
@[simp] theorem State.memWrite_code (s : State) (a : Nat) (b : Bytes) :
    (s.memWrite a b).code = s.code := rfl
@[simp] theorem State.memWrite_arg0 (s : State) (a : Nat) (b : Bytes) :
    (s.memWrite a b).arg0 = s.arg0 := rfl
@[simp] theorem State.memWrite_arg1 (s : State) (a : Nat) (b : Bytes) :
    (s.memWrite a b).arg1 = s.arg1 := rfl
@[simp] theorem State.memWrite_arg2 (s : State) (a : Nat) (b : Bytes) :
    (s.memWrite a b).arg2 = s.arg2 := rfl
@[simp] theorem State.memWrite_arg3 (s : State) (a : Nat) (b : Bytes) :
    (s.memWrite a b).arg3 = s.arg3 := rfl
@[simp] theorem State.memWrite_res0 (s : State) (a : Nat) (b : Bytes) :
    (s.memWrite a b).res0 = s.res0 := rfl
@[simp] theorem State.memWrite_res1 (s : State) (a : Nat) (b : Bytes) :
    (s.memWrite a b).res1 = s.res1 := rfl
@[simp] theorem State.memWrite_bf (s : State) (a : Nat) (b : Bytes) : (s.memWrite a b).bf = s.bf := rfl
@[simp] theorem State.memWrite_ecdh (s : State) (a : Nat) (b : Bytes) :
    (s.memWrite a b).ecdh = s.ecdh := rfl
@[simp] theorem State.memWrite_xfer (s : State) (a : Nat) (b : Bytes) :
    (s.memWrite a b).xfer = s.xfer := rfl
@[simp] theorem State.memWrite_sch (s : State) (a : Nat) (b : Bytes) :
    (s.memWrite a b).sch = s.sch := rfl
@[simp] theorem State.memWrite_lmem (s : State) (a : Nat) (b : Bytes) :
    (s.memWrite a b).lmem = s.lmem.putBytes a b := rfl
@[simp] theorem State.memWrite_env (s : State) (a : Nat) (b : Bytes) :
    (s.memWrite a b).env = s.env := rfl

/-! ## `completeOk` -/

@[simp] theorem State.completeOk_params (s : State) (x y : Word) :
    (s.completeOk x y).params = s.params := rfl
@[simp] theorem State.completeOk_code (s : State) (x y : Word) : (s.completeOk x y).code = .ok := rfl
@[simp] theorem State.completeOk_arg0 (s : State) (x y : Word) : (s.completeOk x y).arg0 = s.arg0 := rfl
@[simp] theorem State.completeOk_arg1 (s : State) (x y : Word) : (s.completeOk x y).arg1 = s.arg1 := rfl
@[simp] theorem State.completeOk_arg2 (s : State) (x y : Word) : (s.completeOk x y).arg2 = s.arg2 := rfl
@[simp] theorem State.completeOk_arg3 (s : State) (x y : Word) : (s.completeOk x y).arg3 = s.arg3 := rfl
@[simp] theorem State.completeOk_res0 (s : State) (x y : Word) : (s.completeOk x y).res0 = x := rfl
@[simp] theorem State.completeOk_res1 (s : State) (x y : Word) : (s.completeOk x y).res1 = y := rfl
@[simp] theorem State.completeOk_bf (s : State) (x y : Word) : (s.completeOk x y).bf = s.bf := rfl
@[simp] theorem State.completeOk_ecdh (s : State) (x y : Word) : (s.completeOk x y).ecdh = s.ecdh := rfl
@[simp] theorem State.completeOk_xfer (s : State) (x y : Word) : (s.completeOk x y).xfer = s.xfer := rfl
@[simp] theorem State.completeOk_sch (s : State) (x y : Word) : (s.completeOk x y).sch = s.sch := rfl
@[simp] theorem State.completeOk_lmem (s : State) (x y : Word) : (s.completeOk x y).lmem = s.lmem := rfl
@[simp] theorem State.completeOk_env (s : State) (x y : Word) : (s.completeOk x y).env = s.env := rfl

/-! ## `errorCompletion` -/

@[simp] theorem State.errorCompletion_params (s : State) (c : Code) :
    (s.errorCompletion c).params = s.params := rfl
@[simp] theorem State.errorCompletion_code (s : State) (c : Code) : (s.errorCompletion c).code = c := rfl
@[simp] theorem State.errorCompletion_arg0 (s : State) (c : Code) :
    (s.errorCompletion c).arg0 = s.arg0 := rfl
@[simp] theorem State.errorCompletion_arg1 (s : State) (c : Code) :
    (s.errorCompletion c).arg1 = s.arg1 := rfl
@[simp] theorem State.errorCompletion_arg2 (s : State) (c : Code) :
    (s.errorCompletion c).arg2 = s.arg2 := rfl
@[simp] theorem State.errorCompletion_arg3 (s : State) (c : Code) :
    (s.errorCompletion c).arg3 = s.arg3 := rfl
@[simp] theorem State.errorCompletion_res0 (s : State) (c : Code) : (s.errorCompletion c).res0 = 0 := rfl
@[simp] theorem State.errorCompletion_res1 (s : State) (c : Code) : (s.errorCompletion c).res1 = 0 := rfl
@[simp] theorem State.errorCompletion_bf (s : State) (c : Code) : (s.errorCompletion c).bf = s.bf := rfl
@[simp] theorem State.errorCompletion_ecdh (s : State) (c : Code) :
    (s.errorCompletion c).ecdh = s.ecdh := rfl
@[simp] theorem State.errorCompletion_xfer (s : State) (c : Code) :
    (s.errorCompletion c).xfer = s.xfer := rfl
@[simp] theorem State.errorCompletion_sch (s : State) (c : Code) :
    (s.errorCompletion c).sch = s.sch := rfl
@[simp] theorem State.errorCompletion_lmem (s : State) (c : Code) :
    (s.errorCompletion c).lmem = s.lmem := rfl
@[simp] theorem State.errorCompletion_env (s : State) (c : Code) :
    (s.errorCompletion c).env = s.env := rfl

/-! ## `emit` -/

@[simp] theorem State.emit_params (s : State) (o : Output) : (s.emit o).params = s.params := rfl
@[simp] theorem State.emit_code (s : State) (o : Output) : (s.emit o).code = s.code := rfl
@[simp] theorem State.emit_arg0 (s : State) (o : Output) : (s.emit o).arg0 = s.arg0 := rfl
@[simp] theorem State.emit_arg1 (s : State) (o : Output) : (s.emit o).arg1 = s.arg1 := rfl
@[simp] theorem State.emit_arg2 (s : State) (o : Output) : (s.emit o).arg2 = s.arg2 := rfl
@[simp] theorem State.emit_arg3 (s : State) (o : Output) : (s.emit o).arg3 = s.arg3 := rfl
@[simp] theorem State.emit_res0 (s : State) (o : Output) : (s.emit o).res0 = s.res0 := rfl
@[simp] theorem State.emit_res1 (s : State) (o : Output) : (s.emit o).res1 = s.res1 := rfl
@[simp] theorem State.emit_bf (s : State) (o : Output) : (s.emit o).bf = s.bf := rfl
@[simp] theorem State.emit_ecdh (s : State) (o : Output) : (s.emit o).ecdh = s.ecdh := rfl
@[simp] theorem State.emit_xfer (s : State) (o : Output) : (s.emit o).xfer = s.xfer := rfl
@[simp] theorem State.emit_sch (s : State) (o : Output) : (s.emit o).sch = s.sch := rfl
@[simp] theorem State.emit_lmem (s : State) (o : Output) : (s.emit o).lmem = s.lmem := rfl
@[simp] theorem State.emit_env_inputs (s : State) (o : Output) :
    (s.emit o).env.inputs = s.env.inputs := rfl
@[simp] theorem State.emit_env_draws (s : State) (o : Output) : (s.emit o).env.draws = s.env.draws := rfl
@[simp] theorem State.emit_env_file (s : State) (o : Output) : (s.emit o).env.file = s.env.file := rfl
@[simp] theorem State.emit_env_freeCount (s : State) (o : Output) :
    (s.emit o).env.freeCount = s.env.freeCount := rfl
@[simp] theorem State.emit_env_lmemEpoch (s : State) (o : Output) :
    (s.emit o).env.lmemEpoch = s.env.lmemEpoch := rfl
@[simp] theorem State.emit_env_out (s : State) (o : Output) :
    (s.emit o).env.out = s.env.out ++ [o] := rfl

/-! ## `discardSession` -/

@[simp] theorem State.discardSession_params (s : State) : (s.discardSession).params = s.params := rfl
@[simp] theorem State.discardSession_code (s : State) : (s.discardSession).code = s.code := rfl
@[simp] theorem State.discardSession_arg0 (s : State) : (s.discardSession).arg0 = s.arg0 := rfl
@[simp] theorem State.discardSession_arg1 (s : State) : (s.discardSession).arg1 = s.arg1 := rfl
@[simp] theorem State.discardSession_arg2 (s : State) : (s.discardSession).arg2 = s.arg2 := rfl
@[simp] theorem State.discardSession_arg3 (s : State) : (s.discardSession).arg3 = s.arg3 := rfl
@[simp] theorem State.discardSession_res0 (s : State) : (s.discardSession).res0 = s.res0 := rfl
@[simp] theorem State.discardSession_res1 (s : State) : (s.discardSession).res1 = s.res1 := rfl
@[simp] theorem State.discardSession_bf (s : State) : (s.discardSession).bf = s.bf := rfl
@[simp] theorem State.discardSession_ecdh (s : State) :
    (s.discardSession).ecdh = EcdhSession.empty := rfl
@[simp] theorem State.discardSession_xfer (s : State) : (s.discardSession).xfer = s.xfer := rfl
@[simp] theorem State.discardSession_sch (s : State) : (s.discardSession).sch = s.sch := rfl
@[simp] theorem State.discardSession_lmem (s : State) : (s.discardSession).lmem = s.lmem := rfl
@[simp] theorem State.discardSession_env (s : State) : (s.discardSession).env = s.env := rfl

/-! ## `afterDraw` -/

@[simp] theorem State.afterDraw_params (s : State) : (s.afterDraw).params = s.params := rfl
@[simp] theorem State.afterDraw_code (s : State) : (s.afterDraw).code = s.code := rfl
@[simp] theorem State.afterDraw_arg0 (s : State) : (s.afterDraw).arg0 = s.arg0 := rfl
@[simp] theorem State.afterDraw_arg1 (s : State) : (s.afterDraw).arg1 = s.arg1 := rfl
@[simp] theorem State.afterDraw_arg2 (s : State) : (s.afterDraw).arg2 = s.arg2 := rfl
@[simp] theorem State.afterDraw_arg3 (s : State) : (s.afterDraw).arg3 = s.arg3 := rfl
@[simp] theorem State.afterDraw_res0 (s : State) : (s.afterDraw).res0 = s.res0 := rfl
@[simp] theorem State.afterDraw_res1 (s : State) : (s.afterDraw).res1 = s.res1 := rfl
@[simp] theorem State.afterDraw_bf (s : State) : (s.afterDraw).bf = s.bf := rfl
@[simp] theorem State.afterDraw_ecdh (s : State) : (s.afterDraw).ecdh = s.ecdh := rfl
@[simp] theorem State.afterDraw_xfer (s : State) : (s.afterDraw).xfer = s.xfer := rfl
@[simp] theorem State.afterDraw_sch (s : State) : (s.afterDraw).sch = s.sch := rfl
@[simp] theorem State.afterDraw_lmem (s : State) : (s.afterDraw).lmem = s.lmem := rfl
@[simp] theorem State.afterDraw_env_inputs (s : State) : (s.afterDraw).env.inputs = s.env.inputs := rfl
@[simp] theorem State.afterDraw_env_draws (s : State) : (s.afterDraw).env.draws = s.env.draws.tail := rfl
@[simp] theorem State.afterDraw_env_file (s : State) : (s.afterDraw).env.file = s.env.file := rfl
@[simp] theorem State.afterDraw_env_freeCount (s : State) :
    (s.afterDraw).env.freeCount = s.env.freeCount + 1 := rfl
@[simp] theorem State.afterDraw_env_lmemEpoch (s : State) :
    (s.afterDraw).env.lmemEpoch = s.env.lmemEpoch := rfl
@[simp] theorem State.afterDraw_env_out (s : State) : (s.afterDraw).env.out = s.env.out := rfl

/-! ## `afterFileRead` -/

@[simp] theorem State.afterFileRead_params (s : State) (o n : Nat) :
    (s.afterFileRead o n).params = s.params := rfl
@[simp] theorem State.afterFileRead_code (s : State) (o n : Nat) :
    (s.afterFileRead o n).code = s.code := rfl
@[simp] theorem State.afterFileRead_arg0 (s : State) (o n : Nat) :
    (s.afterFileRead o n).arg0 = s.arg0 := rfl
@[simp] theorem State.afterFileRead_arg1 (s : State) (o n : Nat) :
    (s.afterFileRead o n).arg1 = s.arg1 := rfl
@[simp] theorem State.afterFileRead_arg2 (s : State) (o n : Nat) :
    (s.afterFileRead o n).arg2 = s.arg2 := rfl
@[simp] theorem State.afterFileRead_arg3 (s : State) (o n : Nat) :
    (s.afterFileRead o n).arg3 = s.arg3 := rfl
@[simp] theorem State.afterFileRead_res0 (s : State) (o n : Nat) :
    (s.afterFileRead o n).res0 = s.res0 := rfl
@[simp] theorem State.afterFileRead_res1 (s : State) (o n : Nat) :
    (s.afterFileRead o n).res1 = s.res1 := rfl
@[simp] theorem State.afterFileRead_bf (s : State) (o n : Nat) : (s.afterFileRead o n).bf = s.bf := rfl
@[simp] theorem State.afterFileRead_ecdh (s : State) (o n : Nat) :
    (s.afterFileRead o n).ecdh = s.ecdh := rfl
@[simp] theorem State.afterFileRead_xfer (s : State) (o n : Nat) :
    (s.afterFileRead o n).xfer = s.xfer := rfl
@[simp] theorem State.afterFileRead_sch (s : State) (o n : Nat) :
    (s.afterFileRead o n).sch = s.sch := rfl
@[simp] theorem State.afterFileRead_lmem (s : State) (o n : Nat) :
    (s.afterFileRead o n).lmem = s.lmem := rfl
@[simp] theorem State.afterFileRead_env_inputs (s : State) (o n : Nat) :
    (s.afterFileRead o n).env.inputs = s.env.inputs := rfl
@[simp] theorem State.afterFileRead_env_draws (s : State) (o n : Nat) :
    (s.afterFileRead o n).env.draws = s.env.draws := rfl
@[simp] theorem State.afterFileRead_env_file (s : State) (o n : Nat) :
    (s.afterFileRead o n).env.file = s.env.file := rfl
@[simp] theorem State.afterFileRead_env_freeCount (s : State) (o n : Nat) :
    (s.afterFileRead o n).env.freeCount = s.env.freeCount + 1 := rfl
@[simp] theorem State.afterFileRead_env_lmemEpoch (s : State) (o n : Nat) :
    (s.afterFileRead o n).env.lmemEpoch = s.env.lmemEpoch := rfl
@[simp] theorem State.afterFileRead_env_out (s : State) (o n : Nat) :
    (s.afterFileRead o n).env.out = s.env.out ++ [.fileRead o n (s.fileBytes o n)] := rfl

/-! ## `insertSess` -/

@[simp] theorem State.insertSess_params (s : State) (c : Cid) (k : Bytes) :
    (s.insertSess c k).params = s.params := rfl
@[simp] theorem State.insertSess_code (s : State) (c : Cid) (k : Bytes) :
    (s.insertSess c k).code = s.code := rfl
@[simp] theorem State.insertSess_arg0 (s : State) (c : Cid) (k : Bytes) :
    (s.insertSess c k).arg0 = s.arg0 := rfl
@[simp] theorem State.insertSess_arg1 (s : State) (c : Cid) (k : Bytes) :
    (s.insertSess c k).arg1 = s.arg1 := rfl
@[simp] theorem State.insertSess_arg2 (s : State) (c : Cid) (k : Bytes) :
    (s.insertSess c k).arg2 = s.arg2 := rfl
@[simp] theorem State.insertSess_arg3 (s : State) (c : Cid) (k : Bytes) :
    (s.insertSess c k).arg3 = s.arg3 := rfl
@[simp] theorem State.insertSess_res0 (s : State) (c : Cid) (k : Bytes) :
    (s.insertSess c k).res0 = s.res0 := rfl
@[simp] theorem State.insertSess_res1 (s : State) (c : Cid) (k : Bytes) :
    (s.insertSess c k).res1 = s.res1 := rfl
@[simp] theorem State.insertSess_bf (s : State) (c : Cid) (k : Bytes) :
    (s.insertSess c k).bf = s.bf := rfl
@[simp] theorem State.insertSess_ecdh (s : State) (c : Cid) (k : Bytes) :
    (s.insertSess c k).ecdh = s.ecdh := rfl
@[simp] theorem State.insertSess_xfer (s : State) (c : Cid) (k : Bytes) :
    (s.insertSess c k).xfer = s.xfer := rfl
@[simp] theorem State.insertSess_sch_mode (s : State) (c : Cid) (k : Bytes) :
    (s.insertSess c k).sch.mode = s.sch.mode := rfl
@[simp] theorem State.insertSess_sch_last (s : State) (c : Cid) (k : Bytes) :
    (s.insertSess c k).sch.last = s.sch.last := rfl
@[simp] theorem State.insertSess_sch_psk (s : State) (c : Cid) (k : Bytes) :
    (s.insertSess c k).sch.psk = s.sch.psk := rfl
@[simp] theorem State.insertSess_sch_sess (s : State) (c : Cid) (k : Bytes) :
    (s.insertSess c k).sch.sess = insertSession s.sch.sess { cid := c, key := k } := rfl
@[simp] theorem State.insertSess_lmem (s : State) (c : Cid) (k : Bytes) :
    (s.insertSess c k).lmem = s.lmem := rfl
@[simp] theorem State.insertSess_env (s : State) (c : Cid) (k : Bytes) :
    (s.insertSess c k).env = s.env := rfl

/-! ## `removeSess` -/

@[simp] theorem State.removeSess_params (s : State) (c : Cid) : (s.removeSess c).params = s.params := rfl
@[simp] theorem State.removeSess_code (s : State) (c : Cid) : (s.removeSess c).code = s.code := rfl
@[simp] theorem State.removeSess_arg0 (s : State) (c : Cid) : (s.removeSess c).arg0 = s.arg0 := rfl
@[simp] theorem State.removeSess_arg1 (s : State) (c : Cid) : (s.removeSess c).arg1 = s.arg1 := rfl
@[simp] theorem State.removeSess_arg2 (s : State) (c : Cid) : (s.removeSess c).arg2 = s.arg2 := rfl
@[simp] theorem State.removeSess_arg3 (s : State) (c : Cid) : (s.removeSess c).arg3 = s.arg3 := rfl
@[simp] theorem State.removeSess_res0 (s : State) (c : Cid) : (s.removeSess c).res0 = s.res0 := rfl
@[simp] theorem State.removeSess_res1 (s : State) (c : Cid) : (s.removeSess c).res1 = s.res1 := rfl
@[simp] theorem State.removeSess_bf (s : State) (c : Cid) : (s.removeSess c).bf = s.bf := rfl
@[simp] theorem State.removeSess_ecdh (s : State) (c : Cid) : (s.removeSess c).ecdh = s.ecdh := rfl
@[simp] theorem State.removeSess_xfer (s : State) (c : Cid) : (s.removeSess c).xfer = s.xfer := rfl
@[simp] theorem State.removeSess_sch_mode (s : State) (c : Cid) :
    (s.removeSess c).sch.mode = s.sch.mode := rfl
@[simp] theorem State.removeSess_sch_last (s : State) (c : Cid) :
    (s.removeSess c).sch.last = s.sch.last := rfl
@[simp] theorem State.removeSess_sch_psk (s : State) (c : Cid) :
    (s.removeSess c).sch.psk = s.sch.psk := rfl
@[simp] theorem State.removeSess_sch_sess (s : State) (c : Cid) :
    (s.removeSess c).sch.sess = s.sch.sess.filter fun e => decide (e.cid ≠ c) := rfl
@[simp] theorem State.removeSess_lmem (s : State) (c : Cid) : (s.removeSess c).lmem = s.lmem := rfl
@[simp] theorem State.removeSess_env (s : State) (c : Cid) : (s.removeSess c).env = s.env := rfl

/-! ## `clearSess` -/

@[simp] theorem State.clearSess_params (s : State) : (s.clearSess).params = s.params := rfl
@[simp] theorem State.clearSess_code (s : State) : (s.clearSess).code = s.code := rfl
@[simp] theorem State.clearSess_arg0 (s : State) : (s.clearSess).arg0 = s.arg0 := rfl
@[simp] theorem State.clearSess_arg1 (s : State) : (s.clearSess).arg1 = s.arg1 := rfl
@[simp] theorem State.clearSess_arg2 (s : State) : (s.clearSess).arg2 = s.arg2 := rfl
@[simp] theorem State.clearSess_arg3 (s : State) : (s.clearSess).arg3 = s.arg3 := rfl
@[simp] theorem State.clearSess_res0 (s : State) : (s.clearSess).res0 = s.res0 := rfl
@[simp] theorem State.clearSess_res1 (s : State) : (s.clearSess).res1 = s.res1 := rfl
@[simp] theorem State.clearSess_bf (s : State) : (s.clearSess).bf = s.bf := rfl
@[simp] theorem State.clearSess_ecdh (s : State) : (s.clearSess).ecdh = s.ecdh := rfl
@[simp] theorem State.clearSess_xfer (s : State) : (s.clearSess).xfer = s.xfer := rfl
@[simp] theorem State.clearSess_sch_mode (s : State) : (s.clearSess).sch.mode = s.sch.mode := rfl
@[simp] theorem State.clearSess_sch_last (s : State) : (s.clearSess).sch.last = s.sch.last := rfl
@[simp] theorem State.clearSess_sch_psk (s : State) : (s.clearSess).sch.psk = s.sch.psk := rfl
@[simp] theorem State.clearSess_sch_sess (s : State) : (s.clearSess).sch.sess = [] := rfl
@[simp] theorem State.clearSess_lmem (s : State) : (s.clearSess).lmem = s.lmem := rfl
@[simp] theorem State.clearSess_env (s : State) : (s.clearSess).env = s.env := rfl

/-! ## `setLast` -/

@[simp] theorem State.setLast_params (s : State) (c : Code) : (s.setLast c).params = s.params := rfl
@[simp] theorem State.setLast_code (s : State) (c : Code) : (s.setLast c).code = s.code := rfl
@[simp] theorem State.setLast_arg0 (s : State) (c : Code) : (s.setLast c).arg0 = s.arg0 := rfl
@[simp] theorem State.setLast_arg1 (s : State) (c : Code) : (s.setLast c).arg1 = s.arg1 := rfl
@[simp] theorem State.setLast_arg2 (s : State) (c : Code) : (s.setLast c).arg2 = s.arg2 := rfl
@[simp] theorem State.setLast_arg3 (s : State) (c : Code) : (s.setLast c).arg3 = s.arg3 := rfl
@[simp] theorem State.setLast_res0 (s : State) (c : Code) : (s.setLast c).res0 = s.res0 := rfl
@[simp] theorem State.setLast_res1 (s : State) (c : Code) : (s.setLast c).res1 = s.res1 := rfl
@[simp] theorem State.setLast_bf (s : State) (c : Code) : (s.setLast c).bf = s.bf := rfl
@[simp] theorem State.setLast_ecdh (s : State) (c : Code) : (s.setLast c).ecdh = s.ecdh := rfl
@[simp] theorem State.setLast_xfer (s : State) (c : Code) : (s.setLast c).xfer = s.xfer := rfl
@[simp] theorem State.setLast_sch_mode (s : State) (c : Code) :
    (s.setLast c).sch.mode = s.sch.mode := rfl
@[simp] theorem State.setLast_sch_last (s : State) (c : Code) : (s.setLast c).sch.last = c := rfl
@[simp] theorem State.setLast_sch_psk (s : State) (c : Code) : (s.setLast c).sch.psk = s.sch.psk := rfl
@[simp] theorem State.setLast_sch_sess (s : State) (c : Code) :
    (s.setLast c).sch.sess = s.sch.sess := rfl
@[simp] theorem State.setLast_lmem (s : State) (c : Code) : (s.setLast c).lmem = s.lmem := rfl
@[simp] theorem State.setLast_env (s : State) (c : Code) : (s.setLast c).env = s.env := rfl

/-! ## `xferFail` -/

@[simp] theorem State.xferFail_params (s : State) (e : XferErr) : (s.xferFail e).params = s.params := rfl
@[simp] theorem State.xferFail_code (s : State) (e : XferErr) : (s.xferFail e).code = s.code := rfl
@[simp] theorem State.xferFail_arg0 (s : State) (e : XferErr) : (s.xferFail e).arg0 = s.arg0 := rfl
@[simp] theorem State.xferFail_arg1 (s : State) (e : XferErr) : (s.xferFail e).arg1 = s.arg1 := rfl
@[simp] theorem State.xferFail_arg2 (s : State) (e : XferErr) : (s.xferFail e).arg2 = s.arg2 := rfl
@[simp] theorem State.xferFail_arg3 (s : State) (e : XferErr) : (s.xferFail e).arg3 = s.arg3 := rfl
@[simp] theorem State.xferFail_res0 (s : State) (e : XferErr) : (s.xferFail e).res0 = s.res0 := rfl
@[simp] theorem State.xferFail_res1 (s : State) (e : XferErr) : (s.xferFail e).res1 = s.res1 := rfl
@[simp] theorem State.xferFail_bf (s : State) (e : XferErr) : (s.xferFail e).bf = s.bf := rfl
@[simp] theorem State.xferFail_ecdh (s : State) (e : XferErr) : (s.xferFail e).ecdh = s.ecdh := rfl
@[simp] theorem State.xferFail_xfer_chunk (s : State) (e : XferErr) :
    (s.xferFail e).xfer.chunk = s.xfer.chunk := rfl
@[simp] theorem State.xferFail_xfer_timeout (s : State) (e : XferErr) :
    (s.xferFail e).xfer.timeout = s.xfer.timeout := rfl
@[simp] theorem State.xferFail_xfer_state (s : State) (e : XferErr) :
    (s.xferFail e).xfer.state = .failed := rfl
@[simp] theorem State.xferFail_xfer_err (s : State) (e : XferErr) : (s.xferFail e).xfer.err = e := rfl
@[simp] theorem State.xferFail_xfer_size (s : State) (e : XferErr) :
    (s.xferFail e).xfer.size = s.xfer.size := rfl
@[simp] theorem State.xferFail_xfer_off (s : State) (e : XferErr) :
    (s.xferFail e).xfer.off = s.xfer.off := rfl
@[simp] theorem State.xferFail_xfer_last (s : State) (e : XferErr) :
    (s.xferFail e).xfer.last = s.xfer.last := rfl
@[simp] theorem State.xferFail_xfer_hash (s : State) (e : XferErr) :
    (s.xferFail e).xfer.hash = s.xfer.hash := rfl
@[simp] theorem State.xferFail_sch (s : State) (e : XferErr) : (s.xferFail e).sch = s.sch := rfl
@[simp] theorem State.xferFail_lmem (s : State) (e : XferErr) : (s.xferFail e).lmem = s.lmem := rfl
@[simp] theorem State.xferFail_env_inputs (s : State) (e : XferErr) :
    (s.xferFail e).env.inputs = s.env.inputs := rfl
@[simp] theorem State.xferFail_env_draws (s : State) (e : XferErr) :
    (s.xferFail e).env.draws = s.env.draws := rfl
@[simp] theorem State.xferFail_env_file (s : State) (e : XferErr) :
    (s.xferFail e).env.file = s.env.file := rfl
@[simp] theorem State.xferFail_env_freeCount (s : State) (e : XferErr) :
    (s.xferFail e).env.freeCount = s.env.freeCount := rfl
@[simp] theorem State.xferFail_env_lmemEpoch (s : State) (e : XferErr) :
    (s.xferFail e).env.lmemEpoch = s.env.lmemEpoch := rfl
@[simp] theorem State.xferFail_env_out (s : State) (e : XferErr) :
    (s.xferFail e).env.out = s.env.out ++ [.txClose] := rfl

/-! ## `sendTrailer` -/

@[simp] theorem State.sendTrailer_params (s : State) : (s.sendTrailer).params = s.params := rfl
@[simp] theorem State.sendTrailer_code (s : State) : (s.sendTrailer).code = s.code := rfl
@[simp] theorem State.sendTrailer_arg0 (s : State) : (s.sendTrailer).arg0 = s.arg0 := rfl
@[simp] theorem State.sendTrailer_arg1 (s : State) : (s.sendTrailer).arg1 = s.arg1 := rfl
@[simp] theorem State.sendTrailer_arg2 (s : State) : (s.sendTrailer).arg2 = s.arg2 := rfl
@[simp] theorem State.sendTrailer_arg3 (s : State) : (s.sendTrailer).arg3 = s.arg3 := rfl
@[simp] theorem State.sendTrailer_res0 (s : State) : (s.sendTrailer).res0 = s.res0 := rfl
@[simp] theorem State.sendTrailer_res1 (s : State) : (s.sendTrailer).res1 = s.res1 := rfl
@[simp] theorem State.sendTrailer_bf (s : State) : (s.sendTrailer).bf = s.bf := rfl
@[simp] theorem State.sendTrailer_ecdh (s : State) : (s.sendTrailer).ecdh = s.ecdh := rfl
@[simp] theorem State.sendTrailer_xfer_chunk (s : State) :
    (s.sendTrailer).xfer.chunk = s.xfer.chunk := rfl
@[simp] theorem State.sendTrailer_xfer_timeout (s : State) :
    (s.sendTrailer).xfer.timeout = s.xfer.timeout := rfl
@[simp] theorem State.sendTrailer_xfer_state (s : State) :
    (s.sendTrailer).xfer.state = .waitTrailerReply := rfl
@[simp] theorem State.sendTrailer_xfer_err (s : State) : (s.sendTrailer).xfer.err = s.xfer.err := rfl
@[simp] theorem State.sendTrailer_xfer_size (s : State) : (s.sendTrailer).xfer.size = s.xfer.size := rfl
@[simp] theorem State.sendTrailer_xfer_off (s : State) : (s.sendTrailer).xfer.off = s.xfer.off := rfl
@[simp] theorem State.sendTrailer_xfer_last (s : State) : (s.sendTrailer).xfer.last = s.xfer.last := rfl
@[simp] theorem State.sendTrailer_xfer_hash (s : State) : (s.sendTrailer).xfer.hash = s.xfer.hash := rfl
@[simp] theorem State.sendTrailer_sch (s : State) : (s.sendTrailer).sch = s.sch := rfl
@[simp] theorem State.sendTrailer_lmem (s : State) : (s.sendTrailer).lmem = s.lmem := rfl
@[simp] theorem State.sendTrailer_env_inputs (s : State) :
    (s.sendTrailer).env.inputs = s.env.inputs := rfl
@[simp] theorem State.sendTrailer_env_draws (s : State) : (s.sendTrailer).env.draws = s.env.draws := rfl
@[simp] theorem State.sendTrailer_env_file (s : State) : (s.sendTrailer).env.file = s.env.file := rfl
@[simp] theorem State.sendTrailer_env_freeCount (s : State) :
    (s.sendTrailer).env.freeCount = s.env.freeCount := rfl
@[simp] theorem State.sendTrailer_env_lmemEpoch (s : State) :
    (s.sendTrailer).env.lmemEpoch = s.env.lmemEpoch := rfl
@[simp] theorem State.sendTrailer_env_out (s : State) :
    (s.sendTrailer).env.out = s.env.out ++ [.tx trailerFrameBytes] := rfl

/-! ## `sendChunk` -/

@[simp] theorem State.sendChunk_params (s : State) : (s.sendChunk).params = s.params := rfl
@[simp] theorem State.sendChunk_code (s : State) : (s.sendChunk).code = s.code := rfl
@[simp] theorem State.sendChunk_arg0 (s : State) : (s.sendChunk).arg0 = s.arg0 := rfl
@[simp] theorem State.sendChunk_arg1 (s : State) : (s.sendChunk).arg1 = s.arg1 := rfl
@[simp] theorem State.sendChunk_arg2 (s : State) : (s.sendChunk).arg2 = s.arg2 := rfl
@[simp] theorem State.sendChunk_arg3 (s : State) : (s.sendChunk).arg3 = s.arg3 := rfl
@[simp] theorem State.sendChunk_res0 (s : State) : (s.sendChunk).res0 = s.res0 := rfl
@[simp] theorem State.sendChunk_res1 (s : State) : (s.sendChunk).res1 = s.res1 := rfl
@[simp] theorem State.sendChunk_bf (s : State) : (s.sendChunk).bf = s.bf := rfl
@[simp] theorem State.sendChunk_ecdh (s : State) : (s.sendChunk).ecdh = s.ecdh := rfl
@[simp] theorem State.sendChunk_xfer_chunk (s : State) : (s.sendChunk).xfer.chunk = s.xfer.chunk := rfl
@[simp] theorem State.sendChunk_xfer_timeout (s : State) :
    (s.sendChunk).xfer.timeout = s.xfer.timeout := rfl
@[simp] theorem State.sendChunk_xfer_state (s : State) : (s.sendChunk).xfer.state = .waitChunkAck := rfl
@[simp] theorem State.sendChunk_xfer_err (s : State) : (s.sendChunk).xfer.err = s.xfer.err := rfl
@[simp] theorem State.sendChunk_xfer_size (s : State) : (s.sendChunk).xfer.size = s.xfer.size := rfl
@[simp] theorem State.sendChunk_xfer_off (s : State) :
    (s.sendChunk).xfer.off = BitVec.ofNat 32 (s.xfer.off.toNat + s.nextChunkLen) := rfl
@[simp] theorem State.sendChunk_xfer_last (s : State) :
    (s.sendChunk).xfer.last = BitVec.ofNat 32 s.nextChunkLen := rfl
@[simp] theorem State.sendChunk_xfer_hash (s : State) : (s.sendChunk).xfer.hash = s.xfer.hash := rfl
@[simp] theorem State.sendChunk_sch (s : State) : (s.sendChunk).sch = s.sch := rfl
@[simp] theorem State.sendChunk_lmem (s : State) : (s.sendChunk).lmem = s.lmem := rfl
@[simp] theorem State.sendChunk_env_inputs (s : State) : (s.sendChunk).env.inputs = s.env.inputs := rfl
@[simp] theorem State.sendChunk_env_draws (s : State) : (s.sendChunk).env.draws = s.env.draws := rfl
@[simp] theorem State.sendChunk_env_file (s : State) : (s.sendChunk).env.file = s.env.file := rfl
@[simp] theorem State.sendChunk_env_freeCount (s : State) :
    (s.sendChunk).env.freeCount = s.env.freeCount + 1 := rfl
@[simp] theorem State.sendChunk_env_lmemEpoch (s : State) :
    (s.sendChunk).env.lmemEpoch = s.env.lmemEpoch := rfl
@[simp] theorem State.sendChunk_env_out (s : State) :
    (s.sendChunk).env.out = s.env.out ++ [.fileRead s.xfer.off.toNat s.nextChunkLen s.nextChunk] ++
        [.tx (dataFrameBytes s.nextChunk)] := rfl

/-! ## `xferDone` -/

@[simp] theorem State.xferDone_params (s : State) : (s.xferDone).params = s.params := rfl
@[simp] theorem State.xferDone_code (s : State) : (s.xferDone).code = s.code := rfl
@[simp] theorem State.xferDone_arg0 (s : State) : (s.xferDone).arg0 = s.arg0 := rfl
@[simp] theorem State.xferDone_arg1 (s : State) : (s.xferDone).arg1 = s.arg1 := rfl
@[simp] theorem State.xferDone_arg2 (s : State) : (s.xferDone).arg2 = s.arg2 := rfl
@[simp] theorem State.xferDone_arg3 (s : State) : (s.xferDone).arg3 = s.arg3 := rfl
@[simp] theorem State.xferDone_res0 (s : State) : (s.xferDone).res0 = s.res0 := rfl
@[simp] theorem State.xferDone_res1 (s : State) : (s.xferDone).res1 = s.res1 := rfl
@[simp] theorem State.xferDone_bf (s : State) : (s.xferDone).bf = s.bf := rfl
@[simp] theorem State.xferDone_ecdh (s : State) : (s.xferDone).ecdh = s.ecdh := rfl
@[simp] theorem State.xferDone_xfer_chunk (s : State) : (s.xferDone).xfer.chunk = s.xfer.chunk := rfl
@[simp] theorem State.xferDone_xfer_timeout (s : State) :
    (s.xferDone).xfer.timeout = s.xfer.timeout := rfl
@[simp] theorem State.xferDone_xfer_state (s : State) : (s.xferDone).xfer.state = .done := rfl
@[simp] theorem State.xferDone_xfer_err (s : State) : (s.xferDone).xfer.err = s.xfer.err := rfl
@[simp] theorem State.xferDone_xfer_size (s : State) : (s.xferDone).xfer.size = s.xfer.size := rfl
@[simp] theorem State.xferDone_xfer_off (s : State) : (s.xferDone).xfer.off = s.xfer.off := rfl
@[simp] theorem State.xferDone_xfer_last (s : State) : (s.xferDone).xfer.last = s.xfer.last := rfl
@[simp] theorem State.xferDone_xfer_hash (s : State) : (s.xferDone).xfer.hash = s.xfer.hash := rfl
@[simp] theorem State.xferDone_sch (s : State) : (s.xferDone).sch = s.sch := rfl
@[simp] theorem State.xferDone_lmem (s : State) : (s.xferDone).lmem = s.lmem := rfl
@[simp] theorem State.xferDone_env_inputs (s : State) : (s.xferDone).env.inputs = s.env.inputs := rfl
@[simp] theorem State.xferDone_env_draws (s : State) : (s.xferDone).env.draws = s.env.draws := rfl
@[simp] theorem State.xferDone_env_file (s : State) : (s.xferDone).env.file = s.env.file := rfl
@[simp] theorem State.xferDone_env_freeCount (s : State) :
    (s.xferDone).env.freeCount = s.env.freeCount := rfl
@[simp] theorem State.xferDone_env_lmemEpoch (s : State) :
    (s.xferDone).env.lmemEpoch = s.env.lmemEpoch := rfl
@[simp] theorem State.xferDone_env_out (s : State) :
    (s.xferDone).env.out = s.env.out ++ [.tx finalAckBytes] ++ [.txClose] := rfl

/-! ## `xferBegin` -/

@[simp] theorem State.xferBegin_params (s : State) : (s.xferBegin).params = s.params := rfl
@[simp] theorem State.xferBegin_code (s : State) : (s.xferBegin).code = .ok := rfl
@[simp] theorem State.xferBegin_arg0 (s : State) : (s.xferBegin).arg0 = s.arg0 := rfl
@[simp] theorem State.xferBegin_arg1 (s : State) : (s.xferBegin).arg1 = s.arg1 := rfl
@[simp] theorem State.xferBegin_arg2 (s : State) : (s.xferBegin).arg2 = s.arg2 := rfl
@[simp] theorem State.xferBegin_arg3 (s : State) : (s.xferBegin).arg3 = s.arg3 := rfl
@[simp] theorem State.xferBegin_res0 (s : State) :
    (s.xferBegin).res0 = BitVec.ofNat 32 (ceilDiv s.arg0.toNat s.xfer.chunk.toNat) := rfl
@[simp] theorem State.xferBegin_res1 (s : State) : (s.xferBegin).res1 = 0 := rfl
@[simp] theorem State.xferBegin_bf (s : State) : (s.xferBegin).bf = s.bf := rfl
@[simp] theorem State.xferBegin_ecdh (s : State) : (s.xferBegin).ecdh = s.ecdh := rfl
@[simp] theorem State.xferBegin_xfer_chunk (s : State) : (s.xferBegin).xfer.chunk = s.xfer.chunk := rfl
@[simp] theorem State.xferBegin_xfer_timeout (s : State) :
    (s.xferBegin).xfer.timeout = s.xfer.timeout := rfl
@[simp] theorem State.xferBegin_xfer_state (s : State) : (s.xferBegin).xfer.state = .waitHdrAck := rfl
@[simp] theorem State.xferBegin_xfer_err (s : State) : (s.xferBegin).xfer.err = .none := rfl
@[simp] theorem State.xferBegin_xfer_size (s : State) : (s.xferBegin).xfer.size = s.arg0 := rfl
@[simp] theorem State.xferBegin_xfer_off (s : State) : (s.xferBegin).xfer.off = 0 := rfl
@[simp] theorem State.xferBegin_xfer_last (s : State) : (s.xferBegin).xfer.last = 0 := rfl
@[simp] theorem State.xferBegin_xfer_hash (s : State) : (s.xferBegin).xfer.hash = s.xfer.hash := rfl
@[simp] theorem State.xferBegin_sch (s : State) : (s.xferBegin).sch = s.sch := rfl
@[simp] theorem State.xferBegin_lmem (s : State) : (s.xferBegin).lmem = s.lmem := rfl
@[simp] theorem State.xferBegin_env_inputs (s : State) : (s.xferBegin).env.inputs = s.env.inputs := rfl
@[simp] theorem State.xferBegin_env_draws (s : State) : (s.xferBegin).env.draws = s.env.draws := rfl
@[simp] theorem State.xferBegin_env_file (s : State) : (s.xferBegin).env.file = s.env.file := rfl
@[simp] theorem State.xferBegin_env_freeCount (s : State) :
    (s.xferBegin).env.freeCount = s.env.freeCount := rfl
@[simp] theorem State.xferBegin_env_lmemEpoch (s : State) :
    (s.xferBegin).env.lmemEpoch = s.env.lmemEpoch := rfl
@[simp] theorem State.xferBegin_env_out (s : State) :
    (s.xferBegin).env.out = s.env.out ++ [.tx (hdrFrameBytes s.arg0)] := rfl

/-! ## `writeHash` -/

@[simp] theorem State.writeHash_params (s : State) (k : Fin 8) (v : Word) :
    (s.writeHash k v).params = s.params := rfl
@[simp] theorem State.writeHash_code (s : State) (k : Fin 8) (v : Word) :
    (s.writeHash k v).code = s.code := rfl
@[simp] theorem State.writeHash_arg0 (s : State) (k : Fin 8) (v : Word) :
    (s.writeHash k v).arg0 = s.arg0 := rfl
@[simp] theorem State.writeHash_arg1 (s : State) (k : Fin 8) (v : Word) :
    (s.writeHash k v).arg1 = s.arg1 := rfl
@[simp] theorem State.writeHash_arg2 (s : State) (k : Fin 8) (v : Word) :
    (s.writeHash k v).arg2 = s.arg2 := rfl
@[simp] theorem State.writeHash_arg3 (s : State) (k : Fin 8) (v : Word) :
    (s.writeHash k v).arg3 = s.arg3 := rfl
@[simp] theorem State.writeHash_res0 (s : State) (k : Fin 8) (v : Word) :
    (s.writeHash k v).res0 = s.res0 := rfl
@[simp] theorem State.writeHash_res1 (s : State) (k : Fin 8) (v : Word) :
    (s.writeHash k v).res1 = s.res1 := rfl
@[simp] theorem State.writeHash_bf (s : State) (k : Fin 8) (v : Word) :
    (s.writeHash k v).bf = s.bf := rfl
@[simp] theorem State.writeHash_ecdh (s : State) (k : Fin 8) (v : Word) :
    (s.writeHash k v).ecdh = s.ecdh := rfl
@[simp] theorem State.writeHash_xfer_chunk (s : State) (k : Fin 8) (v : Word) :
    (s.writeHash k v).xfer.chunk = s.xfer.chunk := rfl
@[simp] theorem State.writeHash_xfer_timeout (s : State) (k : Fin 8) (v : Word) :
    (s.writeHash k v).xfer.timeout = s.xfer.timeout := rfl
@[simp] theorem State.writeHash_xfer_state (s : State) (k : Fin 8) (v : Word) :
    (s.writeHash k v).xfer.state = s.xfer.state := rfl
@[simp] theorem State.writeHash_xfer_err (s : State) (k : Fin 8) (v : Word) :
    (s.writeHash k v).xfer.err = s.xfer.err := rfl
@[simp] theorem State.writeHash_xfer_size (s : State) (k : Fin 8) (v : Word) :
    (s.writeHash k v).xfer.size = s.xfer.size := rfl
@[simp] theorem State.writeHash_xfer_off (s : State) (k : Fin 8) (v : Word) :
    (s.writeHash k v).xfer.off = s.xfer.off := rfl
@[simp] theorem State.writeHash_xfer_last (s : State) (k : Fin 8) (v : Word) :
    (s.writeHash k v).xfer.last = s.xfer.last := rfl
@[simp] theorem State.writeHash_xfer_hash (s : State) (k : Fin 8) (v : Word) :
    (s.writeHash k v).xfer.hash = s.xfer.hash.set k v := rfl
@[simp] theorem State.writeHash_sch (s : State) (k : Fin 8) (v : Word) :
    (s.writeHash k v).sch = s.sch := rfl
@[simp] theorem State.writeHash_lmem (s : State) (k : Fin 8) (v : Word) :
    (s.writeHash k v).lmem = s.lmem := rfl
@[simp] theorem State.writeHash_env (s : State) (k : Fin 8) (v : Word) :
    (s.writeHash k v).env = s.env := rfl

/-! ## `writePsk` -/

@[simp] theorem State.writePsk_params (s : State) (k : Fin 4) (v : Word) :
    (s.writePsk k v).params = s.params := rfl
@[simp] theorem State.writePsk_code (s : State) (k : Fin 4) (v : Word) :
    (s.writePsk k v).code = s.code := rfl
@[simp] theorem State.writePsk_arg0 (s : State) (k : Fin 4) (v : Word) :
    (s.writePsk k v).arg0 = s.arg0 := rfl
@[simp] theorem State.writePsk_arg1 (s : State) (k : Fin 4) (v : Word) :
    (s.writePsk k v).arg1 = s.arg1 := rfl
@[simp] theorem State.writePsk_arg2 (s : State) (k : Fin 4) (v : Word) :
    (s.writePsk k v).arg2 = s.arg2 := rfl
@[simp] theorem State.writePsk_arg3 (s : State) (k : Fin 4) (v : Word) :
    (s.writePsk k v).arg3 = s.arg3 := rfl
@[simp] theorem State.writePsk_res0 (s : State) (k : Fin 4) (v : Word) :
    (s.writePsk k v).res0 = s.res0 := rfl
@[simp] theorem State.writePsk_res1 (s : State) (k : Fin 4) (v : Word) :
    (s.writePsk k v).res1 = s.res1 := rfl
@[simp] theorem State.writePsk_bf (s : State) (k : Fin 4) (v : Word) : (s.writePsk k v).bf = s.bf := rfl
@[simp] theorem State.writePsk_ecdh (s : State) (k : Fin 4) (v : Word) :
    (s.writePsk k v).ecdh = s.ecdh := rfl
@[simp] theorem State.writePsk_xfer (s : State) (k : Fin 4) (v : Word) :
    (s.writePsk k v).xfer = s.xfer := rfl
@[simp] theorem State.writePsk_sch_mode (s : State) (k : Fin 4) (v : Word) :
    (s.writePsk k v).sch.mode = s.sch.mode := rfl
@[simp] theorem State.writePsk_sch_last (s : State) (k : Fin 4) (v : Word) :
    (s.writePsk k v).sch.last = s.sch.last := rfl
@[simp] theorem State.writePsk_sch_psk (s : State) (k : Fin 4) (v : Word) :
    (s.writePsk k v).sch.psk = s.sch.psk.set k v := rfl
@[simp] theorem State.writePsk_sch_sess (s : State) (k : Fin 4) (v : Word) :
    (s.writePsk k v).sch.sess = s.sch.sess := rfl
@[simp] theorem State.writePsk_lmem (s : State) (k : Fin 4) (v : Word) :
    (s.writePsk k v).lmem = s.lmem := rfl
@[simp] theorem State.writePsk_env (s : State) (k : Fin 4) (v : Word) :
    (s.writePsk k v).env = s.env := rfl

/-! ## `popInput` -/

@[simp] theorem State.popInput_params (s : State) : (s.popInput).params = s.params := rfl
@[simp] theorem State.popInput_code (s : State) : (s.popInput).code = s.code := rfl
@[simp] theorem State.popInput_arg0 (s : State) : (s.popInput).arg0 = s.arg0 := rfl
@[simp] theorem State.popInput_arg1 (s : State) : (s.popInput).arg1 = s.arg1 := rfl
@[simp] theorem State.popInput_arg2 (s : State) : (s.popInput).arg2 = s.arg2 := rfl
@[simp] theorem State.popInput_arg3 (s : State) : (s.popInput).arg3 = s.arg3 := rfl
@[simp] theorem State.popInput_res0 (s : State) : (s.popInput).res0 = s.res0 := rfl
@[simp] theorem State.popInput_res1 (s : State) : (s.popInput).res1 = s.res1 := rfl
@[simp] theorem State.popInput_bf (s : State) : (s.popInput).bf = s.bf := rfl
@[simp] theorem State.popInput_ecdh (s : State) : (s.popInput).ecdh = s.ecdh := rfl
@[simp] theorem State.popInput_xfer (s : State) : (s.popInput).xfer = s.xfer := rfl
@[simp] theorem State.popInput_sch (s : State) : (s.popInput).sch = s.sch := rfl
@[simp] theorem State.popInput_lmem (s : State) : (s.popInput).lmem = s.lmem := rfl
@[simp] theorem State.popInput_env_inputs (s : State) :
    (s.popInput).env.inputs = s.env.inputs.tail := rfl
@[simp] theorem State.popInput_env_draws (s : State) : (s.popInput).env.draws = s.env.draws := rfl
@[simp] theorem State.popInput_env_file (s : State) : (s.popInput).env.file = s.env.file := rfl
@[simp] theorem State.popInput_env_freeCount (s : State) :
    (s.popInput).env.freeCount = s.env.freeCount := rfl
@[simp] theorem State.popInput_env_lmemEpoch (s : State) :
    (s.popInput).env.lmemEpoch = s.env.lmemEpoch := rfl
@[simp] theorem State.popInput_env_out (s : State) : (s.popInput).env.out = s.env.out := rfl

/-! ## `pushInput` -/

@[simp] theorem State.pushInput_params (s : State) (x : Input) : (s.pushInput x).params = s.params := rfl
@[simp] theorem State.pushInput_code (s : State) (x : Input) : (s.pushInput x).code = s.code := rfl
@[simp] theorem State.pushInput_arg0 (s : State) (x : Input) : (s.pushInput x).arg0 = s.arg0 := rfl
@[simp] theorem State.pushInput_arg1 (s : State) (x : Input) : (s.pushInput x).arg1 = s.arg1 := rfl
@[simp] theorem State.pushInput_arg2 (s : State) (x : Input) : (s.pushInput x).arg2 = s.arg2 := rfl
@[simp] theorem State.pushInput_arg3 (s : State) (x : Input) : (s.pushInput x).arg3 = s.arg3 := rfl
@[simp] theorem State.pushInput_res0 (s : State) (x : Input) : (s.pushInput x).res0 = s.res0 := rfl
@[simp] theorem State.pushInput_res1 (s : State) (x : Input) : (s.pushInput x).res1 = s.res1 := rfl
@[simp] theorem State.pushInput_bf (s : State) (x : Input) : (s.pushInput x).bf = s.bf := rfl
@[simp] theorem State.pushInput_ecdh (s : State) (x : Input) : (s.pushInput x).ecdh = s.ecdh := rfl
@[simp] theorem State.pushInput_xfer (s : State) (x : Input) : (s.pushInput x).xfer = s.xfer := rfl
@[simp] theorem State.pushInput_sch (s : State) (x : Input) : (s.pushInput x).sch = s.sch := rfl
@[simp] theorem State.pushInput_lmem (s : State) (x : Input) : (s.pushInput x).lmem = s.lmem := rfl
@[simp] theorem State.pushInput_env_inputs (s : State) (x : Input) :
    (s.pushInput x).env.inputs = x :: s.env.inputs := rfl
@[simp] theorem State.pushInput_env_draws (s : State) (x : Input) :
    (s.pushInput x).env.draws = s.env.draws := rfl
@[simp] theorem State.pushInput_env_file (s : State) (x : Input) :
    (s.pushInput x).env.file = s.env.file := rfl
@[simp] theorem State.pushInput_env_freeCount (s : State) (x : Input) :
    (s.pushInput x).env.freeCount = s.env.freeCount := rfl
@[simp] theorem State.pushInput_env_lmemEpoch (s : State) (x : Input) :
    (s.pushInput x).env.lmemEpoch = s.env.lmemEpoch := rfl
@[simp] theorem State.pushInput_env_out (s : State) (x : Input) :
    (s.pushInput x).env.out = s.env.out := rfl

end Sys2Proof.Machine
end

