-- ==== Sys2Proof/Laws/Memory.lean ====
section
/-! SUPPORT. LMEM: what is read after a write, and that every operation keeps the canonical form. -/

namespace Sys2Proof.Machine

/-! ## One byte -/

@[simp] theorem Memory.find_nil (a : Nat) : Memory.find [] a = none := rfl

theorem Memory.find_cons (k : Nat) (x : Byte) (m : Memory) (a : Nat) :
    Memory.find ((k, x) :: m) a = if a = k then some x else Memory.find m a := rfl

/-- Reading after writing one byte. -/
theorem Memory.find_put (m : Memory) (a : Nat) (b : Byte) (c : Nat) :
    (m.put a b).find c = if c = a then some b else m.find c := by
  induction m with
  | nil => rfl
  | cons e m ih =>
    obtain ⟨k, x⟩ := e
    simp only [Memory.put]
    split
    · simp [Memory.find_cons]
    · split
      · subst_vars; simp only [Memory.find_cons]; split <;> rfl
      · simp only [Memory.find_cons, ih]; split_ifs <;> first | rfl | omega

/-- What stands before the rest of a canonical list. -/
theorem Memory.wf_cons {e : Host.Cell} {m : Memory} :
    Memory.wf (e :: m) = true ↔ (∀ c ∈ m.head?, e.1 < c.1) ∧ m.wf = true := by
  obtain ⟨k, x⟩ := e
  cases m with
  | nil => simp [Memory.wf]
  | cons c m => obtain ⟨k', x'⟩ := c; simp [Memory.wf]

/-- The head of a list after a byte is put into it. -/
theorem Memory.head_put {m : Memory} {a : Nat} {b : Byte} {c : Host.Cell}
    (h : c ∈ (m.put a b).head?) : c = (a, b) ∨ c ∈ m.head? := by
  cases m with
  | nil => simp [Memory.put] at h; exact .inl h.symm
  | cons e m =>
    obtain ⟨k, x⟩ := e
    simp only [Memory.put] at h
    split at h
    · simp at h; exact .inl h.symm
    · split at h
      · simp at h; exact .inl h.symm
      · simp at h; simp [h]

/-- Writing a byte keeps the canonical form. -/
theorem Memory.wf_put {m : Memory} (h : m.wf = true) (a : Nat) (b : Byte) : (m.put a b).wf = true := by
  induction m with
  | nil => rfl
  | cons e m ih =>
    obtain ⟨k, x⟩ := e
    obtain ⟨h1, h2⟩ := Memory.wf_cons.1 h
    simp only [Memory.put]
    split
    · exact Memory.wf_cons.2 ⟨by simpa using ‹a < k›, h⟩
    · split
      · subst_vars; exact Memory.wf_cons.2 ⟨h1, h2⟩
      · refine Memory.wf_cons.2 ⟨fun c hc => ?_, ih h2⟩
        obtain rfl | hc := Memory.head_put hc
        · show k < a; omega
        · exact h1 c hc

/-- Writing a byte inside LMEM keeps every written byte inside. -/
theorem Memory.within_put {m : Memory} {n : Nat} (h : m.within n = true) {a : Nat} (ha : a < n) (b : Byte) :
    (m.put a b).within n = true := by
  induction m with
  | nil => simpa [Memory.put, Memory.within] using ha
  | cons e m ih =>
    obtain ⟨k, x⟩ := e
    simp only [Memory.within, List.all_cons, Bool.and_eq_true, decide_eq_true_eq] at h ih
    simp only [Memory.put]
    split
    · simp only [Memory.within, List.all_cons, Bool.and_eq_true, decide_eq_true_eq]; exact ⟨ha, h⟩
    · split
      · simp only [Memory.within, List.all_cons, Bool.and_eq_true, decide_eq_true_eq]; exact ⟨ha, h.2⟩
      · simp only [Memory.within, List.all_cons, Bool.and_eq_true, decide_eq_true_eq]; exact ⟨h.1, ih h.2⟩

/-! ## A byte string -/

@[simp] theorem Memory.putBytes_nil (m : Memory) (a : Nat) : m.putBytes a [] = m := rfl

@[simp] theorem Memory.putBytes_cons (m : Memory) (a : Nat) (b : Byte) (bs : Bytes) :
    m.putBytes a (b :: bs) = (m.put a b).putBytes (a + 1) bs := rfl

/-- Reading after writing a byte string: its byte inside, the old byte outside. -/
theorem Memory.find_putBytes (m : Memory) (a : Nat) (bs : Bytes) (c : Nat) :
    (m.putBytes a bs).find c = if a ≤ c ∧ c < a + bs.length then bs[c - a]? else m.find c := by
  induction bs generalizing m a with
  | nil => simp
  | cons b bs ih =>
    rw [Memory.putBytes_cons, ih, Memory.find_put]
    simp only [List.length_cons]
    by_cases hc : c = a
    · subst hc; simp
    · by_cases h : a + 1 ≤ c ∧ c < a + 1 + bs.length
      · obtain ⟨d, rfl⟩ : ∃ d, c = a + 1 + d := ⟨c - (a + 1), by omega⟩
        rw [if_pos h, if_pos (by omega), show a + 1 + d - (a + 1) = d by omega,
          show a + 1 + d - a = d + 1 by omega, List.getElem?_cons_succ]
      · rw [if_neg h, if_neg hc, if_neg (by omega)]

/-- Writing a byte string keeps the canonical form. -/
theorem Memory.wf_putBytes {m : Memory} (h : m.wf = true) (a : Nat) (bs : Bytes) :
    (m.putBytes a bs).wf = true := by
  induction bs generalizing m a with
  | nil => exact h
  | cons b bs ih => exact ih (Memory.wf_put h a b) (a + 1)

/-- Writing a byte string inside LMEM keeps every written byte inside. -/
theorem Memory.within_putBytes {m : Memory} {n : Nat} (h : m.within n = true) (a : Nat) (bs : Bytes)
    (ha : a + bs.length ≤ n) : (m.putBytes a bs).within n = true := by
  induction bs generalizing m a with
  | nil => exact h
  | cons b bs ih =>
    simp only [List.length_cons] at ha
    exact ih (Memory.within_put h (by omega) b) (a + 1) (by omega)

/-! ## Reads of the state -/

/-- Two states with the same LMEM list and the same reset count read the same byte everywhere. -/
theorem State.byteAt_congr {s t : State} (h1 : t.lmem = s.lmem) (h2 : t.env.lmemEpoch = s.env.lmemEpoch)
    (a : Nat) : t.byteAt a = s.byteAt a := by
  unfold State.byteAt; rw [h1, h2]

/-- A byte read after `MemWrite`. -/
theorem State.byteAt_memWrite (s : State) (a : Nat) (bs : Bytes) (c : Nat) :
    (s.memWrite a bs).byteAt c = if a ≤ c ∧ c < a + bs.length then bs.getD (c - a) 0 else s.byteAt c := by
  simp only [State.byteAt, State.memWrite_lmem, State.memWrite_env, Memory.find_putBytes]
  split
  · rw [List.getElem?_eq_getElem (by omega), List.getD_eq_getElem?_getD,
      List.getElem?_eq_getElem (by omega)]; rfl
  · rfl

@[simp] theorem State.byteAt_completeOk (s : State) (x y : Word) (a : Nat) :
    (s.completeOk x y).byteAt a = s.byteAt a := rfl
@[simp] theorem State.byteAt_errorCompletion (s : State) (c : Code) (a : Nat) :
    (s.errorCompletion c).byteAt a = s.byteAt a := rfl
@[simp] theorem State.byteAt_emit (s : State) (o : Output) (a : Nat) : (s.emit o).byteAt a = s.byteAt a := rfl
@[simp] theorem State.byteAt_discardSession (s : State) (a : Nat) :
    s.discardSession.byteAt a = s.byteAt a := rfl
@[simp] theorem State.byteAt_afterDraw (s : State) (a : Nat) : s.afterDraw.byteAt a = s.byteAt a := rfl

@[simp] theorem State.length_memRead (s : State) (a n : Nat) : (s.memRead a n).length = n := by
  induction n generalizing a with
  | zero => rfl
  | succ n ih => simp [State.memRead, ih]

/-- `MemRead` byte by byte. -/
theorem State.getElem?_memRead (s : State) (a n i : Nat) :
    (s.memRead a n)[i]? = if i < n then some (s.byteAt (a + i)) else none := by
  induction n generalizing a i with
  | zero => simp [State.memRead]
  | succ n ih =>
    cases i with
    | zero => simp [State.memRead]
    | succ i => simp [State.memRead, ih, Nat.add_assoc, Nat.add_comm 1 i]

/-- `MemRead` depends on the bytes of its range only. -/
theorem State.memRead_congr {s t : State} {a n : Nat}
    (h : ∀ i, i < n → t.byteAt (a + i) = s.byteAt (a + i)) : t.memRead a n = s.memRead a n := by
  refine List.ext_getElem? fun i => ?_
  rw [State.getElem?_memRead, State.getElem?_memRead]
  split
  · rw [h i ‹_›]
  · rfl

@[simp] theorem State.memRead_completeOk (s : State) (x y : Word) (a n : Nat) :
    (s.completeOk x y).memRead a n = s.memRead a n := State.memRead_congr fun _ _ => rfl
@[simp] theorem State.memRead_errorCompletion (s : State) (c : Code) (a n : Nat) :
    (s.errorCompletion c).memRead a n = s.memRead a n := State.memRead_congr fun _ _ => rfl
@[simp] theorem State.memRead_discardSession (s : State) (a n : Nat) :
    s.discardSession.memRead a n = s.memRead a n := State.memRead_congr fun _ _ => rfl
@[simp] theorem State.memRead_afterDraw (s : State) (a n : Nat) :
    s.afterDraw.memRead a n = s.memRead a n := State.memRead_congr fun _ _ => rfl
@[simp] theorem State.wordAt_completeOk (s : State) (x y : Word) (a : Nat) :
    (s.completeOk x y).wordAt a = s.wordAt a := rfl

/-- `MemRead` of the range just written. -/
theorem State.memRead_memWrite_same (s : State) (a : Nat) (bs : Bytes) :
    (s.memWrite a bs).memRead a bs.length = bs := by
  refine List.ext_getElem? fun i => ?_
  rw [State.getElem?_memRead]
  split
  · rw [State.byteAt_memWrite, if_pos (by omega), show a + i - a = i by omega,
      List.getElem?_eq_getElem ‹_›, List.getD_eq_getElem?_getD, List.getElem?_eq_getElem ‹_›]; rfl
  · exact (List.getElem?_eq_none (by omega)).symm

/-- `MemRead` of a range apart from the one just written. -/
theorem State.memRead_memWrite_apart (s : State) (a c n : Nat) (bs : Bytes)
    (h : a + bs.length ≤ c ∨ c + n ≤ a) : (s.memWrite a bs).memRead c n = s.memRead c n :=
  State.memRead_congr fun i hi => by rw [State.byteAt_memWrite, if_neg (by omega)]

/-- The four bytes of a word, put together again (00_scope.md R12). -/
theorem word32_extract (w : Word) :
    word32 (w.extractLsb' 0 8) (w.extractLsb' 8 8) (w.extractLsb' 16 8) (w.extractLsb' 24 8) = w := by
  refine BitVec.eq_of_getLsbD_eq fun i hi => ?_
  simp only [word32, BitVec.getLsbD_append, BitVec.getLsbD_extractLsb']
  split_ifs
  · simp [*]
  · rw [show 8 + (i - 8) = i by omega]; simp; omega
  · rw [show 16 + (i - 8 - 8) = i by omega]; simp; omega
  · rw [show 24 + (i - 8 - 8 - 8) = i by omega]; simp; omega

/-- The word just written. -/
theorem State.wordAt_memWrite_same (s : State) (a : Nat) (w : Word) :
    (s.memWrite a (toLE32 w)).wordAt a = w := by
  simp only [State.wordAt, State.byteAt_memWrite, toLE32, List.length_cons, List.length_nil]
  rw [if_pos (by omega), if_pos (by omega), if_pos (by omega), if_pos (by omega)]
  simp only [Nat.sub_self, Nat.add_sub_cancel_left, List.getD_cons_zero, List.getD_cons_succ,
    word32_extract]

/-- A word apart from the range just written. -/
theorem State.wordAt_memWrite_apart (s : State) (a c : Nat) (bs : Bytes)
    (h : a + bs.length ≤ c ∨ c + 4 ≤ a) : (s.memWrite a bs).wordAt c = s.wordAt c := by
  simp only [State.wordAt, State.byteAt_memWrite]
  rw [if_neg (by omega), if_neg (by omega), if_neg (by omega), if_neg (by omega)]

/-- `MemWrite` keeps the canonical form of LMEM. -/
theorem State.wf_memWrite {s : State} (h : s.lmem.wf = true) (a : Nat) (bs : Bytes) :
    (s.memWrite a bs).lmem.wf = true := Memory.wf_putBytes h a bs

/-- The memory of the reset state is canonical. -/
theorem State.wf_reset : State.reset.lmem.wf = true := rfl

end Sys2Proof.Machine
end

