-- ==== Sys2Proof/Laws/Ops.lean ====
section
/-! SUPPORT. For each shared operation, once, everything it can do. -/

namespace Sys2Proof.Machine

/-! ## Checks in order (60_exceptions.md R346) -/

@[simp] theorem firstFailure_nil : firstFailure [] = none := rfl

@[simp] theorem firstFailure_cons (b : Bool) (c : Code) (rest : List Check) :
    firstFailure ((b, c) :: rest) = if b then firstFailure rest else some c := by cases b <;> rfl

theorem firstFailure_append (xs ys : List Check) :
    firstFailure (xs ++ ys) = (firstFailure xs).or (firstFailure ys) := by
  induction xs with
  | nil => rfl
  | cons x xs ih => obtain ⟨_ | _, c⟩ := x <;> simp [ih]

/-- No check fails exactly when each passes. -/
theorem firstFailure_eq_none {xs : List Check} : firstFailure xs = none ↔ ∀ x ∈ xs, x.1 = true := by
  induction xs with
  | nil => simp
  | cons x xs ih => obtain ⟨_ | _, c⟩ := x <;> simp [ih]

/-- The code reported is the code of one of the checks. -/
theorem firstFailure_mem {xs : List Check} {c : Code} (h : firstFailure xs = some c) :
    c ∈ xs.map (·.2) := by
  induction xs with
  | nil => simp at h
  | cons x xs ih =>
    obtain ⟨_ | _, d⟩ := x
    · simp at h; simp [h]
    · exact List.mem_cons_of_mem _ (ih (by simpa using h))

/-- A command behind its checks: an error completion with the code of the first that fails, or the success
case after all have passed. -/
theorem State.checked_cases (s : State) (checks : List Check) (success : Result) :
    (∃ c, firstFailure checks = some c ∧ s.checked checks success = .next (s.errorCompletion c)) ∨
    ((∀ x ∈ checks, x.1 = true) ∧ s.checked checks success = success) := by
  unfold State.checked
  cases h : firstFailure checks with
  | none => exact .inr ⟨firstFailure_eq_none.1 h, rfl⟩
  | some c => exact .inl ⟨c, rfl, rfl⟩

theorem State.checked_of_pass {s : State} {checks : List Check} (success : Result)
    (h : ∀ x ∈ checks, x.1 = true) : s.checked checks success = success := by
  unfold State.checked; rw [firstFailure_eq_none.2 h]

theorem State.checked_of_fail {s : State} {checks : List Check} (success : Result) {c : Code}
    (h : firstFailure checks = some c) : s.checked checks success = .next (s.errorCompletion c) := by
  unfold State.checked; rw [h]

/-- `InRange` as an inequality of natural numbers (20_memory.md R70). -/
@[simp] theorem State.inRange_eq_true (s : State) (a n : Nat) :
    s.inRange a n = true ↔ a + n ≤ s.params.lmemSize := by simp [State.inRange]

/-- `1 <= XFER_CHUNK <= 65535` (45_frame_transfer.md R270). -/
@[simp] theorem State.chunkLegal_eq_true (s : State) :
    s.chunkLegal = true ↔ 1 ≤ s.xfer.chunk.toNat ∧ s.xfer.chunk.toNat ≤ 65535 := by
  simp [State.chunkLegal]

/-- The register space of 10_state.md R24, by aligned words. -/
@[simp] theorem State.wordAccess_eq_true (s : State) (a : Nat) : s.wordAccess a = true ↔
    s.params.base ≤ a ∧ s.busOffset a < 0x10000 ∧ s.busOffset a % 4 = 0 := by
  simp [State.wordAccess, and_assoc]

/-- The LMEM window (20_memory.md R61, R71; U14). -/
@[simp] theorem State.byteAccess_eq_true (s : State) (a : Nat) : s.byteAccess a = true ↔
    s.params.base + 0x10000 ≤ a ∧ a < s.params.base + 0x10000 + s.params.lmemSize ∧
      a < s.params.base + s.params.regionSize := by
  simp [State.byteAccess, and_assoc]

/-- A byte access the step accepts lies in LMEM (20_memory.md R61; U14). -/
theorem State.inRange_of_byteAccess {s : State} {a : Nat} (h : s.byteAccess a = true) :
    s.inRange (s.busOffset a - lmemWindow) 1 = true := by
  rw [State.byteAccess_eq_true] at h
  rw [State.inRange_eq_true]
  show a - s.params.base - 0x10000 + 1 ≤ _
  omega

/-- With legal parameters the step accepts a byte access exactly in the LMEM window (U14). -/
theorem State.byteAccess_window {s : State} (hp : s.params.legal = true) (a : Nat) :
    s.byteAccess (s.params.base + (0x10000 + a)) = true ↔ a < s.params.lmemSize := by
  simp only [Params.legal, Bool.and_eq_true, decide_eq_true_eq] at hp
  rw [State.byteAccess_eq_true]
  omega

/-- The offset of the bus address `BASE + o` (10_state.md R24). -/
@[simp] theorem State.busOffset_base_add (s : State) (o : Nat) : s.busOffset (s.params.base + o) = o := by
  simp [State.busOffset]

@[simp] theorem State.busOffset_base (s : State) : s.busOffset s.params.base = 0 := by simp [State.busOffset]

/-- `BE32` undoes `ToBE32` (00_scope.md R12). -/
theorem be32_toBE32 (v : Word) : be32 (toBE32 v) = v := by
  simp only [be32, toBE32, word32, List.getD_cons_zero, List.getD_cons_succ]
  ext i hi
  simp only [BitVec.getElem_append, BitVec.getElem_extractLsb']
  split <;> [skip; split <;> [skip; split]] <;> (rw [BitVec.getLsbD_eq_getElem (by omega)]; congr 1; omega)

/-- The descriptor's two fields (30_encoding.md R94) by division. -/
theorem State.bitPos_eq (s : State) : s.bitPos = s.arg1.toNat % 256 := by simp [State.bitPos]

theorem State.bitLen_eq (s : State) : s.bitLen = s.arg1.toNat / 256 % 256 := by
  simp [State.bitLen, Nat.shiftRight_eq_div_pow]

/-- The field mask by bits (41_bitfield.md R151). -/
theorem getLsbD_fieldMask (pos len j : Nat) (hj : j < 32) :
    (fieldMask pos len).getLsbD j = decide (pos ≤ j ∧ j < pos + len) := by
  simp only [fieldMask, BitVec.getLsbD_ofNat, Nat.testBit_shiftLeft, Nat.testBit_two_pow_sub_one, hj,
    decide_true, Bool.true_and]
  by_cases h : pos ≤ j
  · simp [h]; omega
  · simp [h]

/-! ## Lengths -/

@[simp] theorem length_toLE32 (w : Word) : (toLE32 w).length = 4 := rfl
@[simp] theorem length_toBE256 (v : Nat) : (toBE256 v).length = 32 := by simp [toBE256]
@[simp] theorem length_zeros (n : Nat) : (zeros n).length = n := by simp [zeros]
@[simp] theorem length_xorBytes (a b : Bytes) : (xorBytes a b).length = min a.length b.length := by
  simp [xorBytes]
@[simp] theorem length_encodePoint (pt : Point) : (encodePoint pt).length = 64 := by simp [encodePoint]
@[simp] theorem length_pubKey (d : Nat) : (pubKey d).length = 64 := length_encodePoint _
@[simp] theorem length_sharedSecret (d : Nat) (b : Bytes) : (sharedSecret d b).length = 32 :=
  length_toBE256 _
@[simp] theorem length_fileBytes (s : State) (o n : Nat) : (s.fileBytes o n).length = n := by
  simp only [State.fileBytes, List.length_append, List.length_map, List.length_range, List.length_take,
    List.length_drop]
  omega

/-- A read inside the presented file gives its bytes. -/
theorem State.fileBytes_inside (s : State) (o n : Nat) (h : o + n ≤ s.env.file.length) :
    s.fileBytes o n = (s.env.file.drop o).take n := by
  have : n - ((s.env.file.drop o).take n).length = 0 := by
    simp only [List.length_take, List.length_drop]; omega
  simp only [State.fileBytes, this, List.range_zero, List.map_nil, List.append_nil]

/-! ## Draws (10_state.md R48) -/

theorem legalScalar_iff (d : Nat) : legalScalar d = true ↔ 1 ≤ d ∧ d < p256N := by simp [legalScalar]

/-- A free draw is an element of the set. -/
theorem legalScalar_freeScalar (k : Nat) : legalScalar (freeScalar k) = true := by
  have h := Nat.mod_lt (Config.draw k) (show 0 < p256N - 1 by decide)
  rw [legalScalar_iff, freeScalar]
  omega

/-- Whatever is pending, a draw is an element of the set. -/
theorem State.legalScalar_drawn (s : State) : legalScalar s.drawn = true := by
  unfold State.drawn
  split
  · exact legalScalar_freeScalar _
  · split
    · assumption
    · exact legalScalar_freeScalar _

/-- A draw is a 256-bit number. -/
theorem State.drawn_lt (s : State) : s.drawn < 2 ^ 256 :=
  ((legalScalar_iff _).1 s.legalScalar_drawn).2.trans (by decide)

/-- A draw that an input has fixed is that input's value. -/
theorem State.drawn_fixed {s : State} {d : Num256} {rest : List Num256} (h : s.env.draws = d :: rest)
    (hd : legalScalar d.toNat = true) : s.drawn = d.toNat := by
  simp [State.drawn, h, hd]

/-! ## The session table (44_secure_channel.md R232) -/

theorem findSession_cons (e : Session) (l : List Session) (c : Cid) :
    findSession (e :: l) c = if e.cid = c then some e.key else findSession l c := rfl

/-- Lookup after an insertion for a client that had no entry. -/
theorem findSession_insertSession (l : List Session) (e : Session) (c : Cid)
    (h : findSession l e.cid = none) :
    findSession (insertSession l e) c = if c = e.cid then some e.key else findSession l c := by
  induction l with
  | nil => simp [insertSession, findSession, eq_comm]
  | cons x l ih =>
    rw [findSession_cons] at h
    split at h
    · simp at h
    · rename_i hx
      simp only [insertSession]
      split
      · simp only [findSession_cons]; simp only [eq_comm (a := e.cid)]
      · rw [findSession_cons, ih h, findSession_cons]
        split_ifs <;> first | rfl | (subst_vars; contradiction)

/-- Lookup after a removal. -/
theorem findSession_remove (l : List Session) (c c' : Cid) :
    findSession (l.filter fun e => decide (e.cid ≠ c)) c' = if c' = c then none else findSession l c' := by
  induction l with
  | nil => simp [findSession]
  | cons x l ih =>
    by_cases hx : x.cid = c
    · rw [List.filter_cons_of_neg (by simpa using hx), ih, findSession_cons]
      split_ifs <;> first | rfl | (subst_vars; contradiction)
    · rw [List.filter_cons_of_pos (by simpa using hx), findSession_cons, ih, findSession_cons]
      split_ifs <;> first | rfl | (subst_vars; contradiction)

@[simp] theorem length_insertSession (l : List Session) (e : Session) :
    (insertSession l e).length = l.length + 1 := by
  induction l with
  | nil => rfl
  | cons x l ih => simp only [insertSession]; split <;> simp [ih]

/-! ## The transfer machine -/

/-- `SendNext()` (45_frame_transfer.md R276). -/
theorem State.sendNext_cases (s : State) :
    (s.xfer.off.toNat < s.xfer.size.toNat ∧ s.sendNext = s.sendChunk) ∨
    (s.xfer.size.toNat ≤ s.xfer.off.toNat ∧ s.sendNext = s.sendTrailer) := by
  unfold State.sendNext
  split
  · exact .inl ⟨‹_›, rfl⟩
  · exact .inr ⟨by omega, rfl⟩

/-- Everything a reply can do (45_frame_transfer.md R271 to R275). -/
theorem State.rxEvent_cases (s : State) (r : Bytes) :
    ((s.xfer.state = .waitHdrAck ∨ s.xfer.state = .waitChunkAck) ∧ r = okBytes ∧
      s.rxEvent r = s.sendNext) ∨
    (s.xfer.state = .waitHdrAck ∧ r ≠ okBytes ∧ s.rxEvent r = s.xferFail .error1) ∨
    (s.xfer.state = .waitChunkAck ∧ r ≠ okBytes ∧ s.rxEvent r = s.xferFail .error2) ∨
    (s.xfer.state = .waitTrailerReply ∧ r.take 2 = okBytes ∧ hexDecode32 (r.drop 2) = some s.digest ∧
      s.rxEvent r = s.xferDone) ∨
    (s.xfer.state = .waitTrailerReply ∧ r.take 2 = okBytes ∧ hexDecode32 (r.drop 2) ≠ some s.digest ∧
      s.rxEvent r = s.xferFail .error4) ∨
    (s.xfer.state = .waitTrailerReply ∧ r.take 2 ≠ okBytes ∧ s.rxEvent r = s.xferFail .error3) ∨
    (s.xfer.state.waiting = false ∧ s.rxEvent r = s) := by
  unfold State.rxEvent
  cases h : s.xfer.state <;>
    simp only [XferState.waiting, isOk, startsOk, State.hashMatch, beq_iff_eq, reduceCtorEq, false_and,
      false_or, or_false, true_and, or_true, Bool.true_eq_false]
  · by_cases hr : r = okBytes <;> simp [hr]
  · by_cases hr : r = okBytes <;> simp [hr]
  · by_cases h2 : r.take 2 = okBytes
    · by_cases h3 : hexDecode32 (r.drop 2) = some s.digest <;> simp [h2, h3]
    · simp [h2]

/-! ## The secure channel -/

/-- A datagram decrypted under a key (44_secure_channel.md R235, R237). -/
theorem State.decryptEvent_cases (s : State) (cid : Cid) (k d : Bytes) :
    (d.length % 16 = 0 ∧ s.decryptEvent cid k d = (s.emit (.payload cid (cbcDec k d))).setLast .ok) ∨
    (d.length % 16 ≠ 0 ∧ s.decryptEvent cid k d = s.setLast .errCryptoLen) := by
  unfold State.decryptEvent
  by_cases h : d.length % 16 = 0 <;> simp [h]

/-- The hello case (44_secure_channel.md R236). -/
theorem State.helloEvent_cases (s : State) (cid : Cid) (b : Bytes) :
    (validPeer b = false ∧ s.helloEvent cid b = s.setLast .errCryptoPeerKey) ∨
    (validPeer b = true ∧ s.params.nsess ≤ s.sch.sess.length ∧
      s.helloEvent cid b = s.setLast .errCryptoFull) ∨
    (validPeer b = true ∧ s.sch.sess.length < s.params.nsess ∧
      s.helloEvent cid b = (s.acceptHello cid b s.drawn).afterDraw) := by
  unfold State.helloEvent State.tableFull State.nactive
  cases hv : validPeer b
  · simp
  · by_cases hf : s.params.nsess ≤ s.sch.sess.length
    · simp [hf]
    · simp [hf, Nat.not_le.1 hf]

/-- Everything a datagram can do (44_secure_channel.md R233 to R239). -/
theorem State.dgEvent_cases (s : State) (cid : Cid) (d : Bytes) :
    (s.sch.mode = .off ∧ s.dgEvent cid d = (s.emit (.payload cid d)).setLast .ok) ∨
    (s.sch.mode = .psk ∧ s.dgEvent cid d = s.decryptEvent cid s.pskBytes d) ∨
    (∃ k, s.sch.mode = .ecdh ∧ findSession s.sch.sess cid = some k ∧
      s.dgEvent cid d = (s.removeSess cid).decryptEvent cid k d) ∨
    (s.sch.mode = .ecdh ∧ findSession s.sch.sess cid = none ∧ d.take 4 = cskBytes ∧
      s.dgEvent cid d = s.helloEvent cid (d.drop 4)) ∨
    (s.sch.mode = .ecdh ∧ findSession s.sch.sess cid = none ∧ d.take 4 ≠ cskBytes ∧
      s.dgEvent cid d = s.setLast .errCryptoNoSession) := by
  unfold State.dgEvent
  cases hm : s.sch.mode
  · simp
  · simp
  · cases hf : findSession s.sch.sess cid with
    | some k => simp
    | none => by_cases hh : d.take 4 = cskBytes <;> simp [isHello, hh]

end Sys2Proof.Machine
end

