-- ==== Sys2Proof/Laws/PerInstr.lean ====
section
/-! SUPPORT. The family `EncodeFits`: the wire form of a well-formed instruction is within the bounds of the port
it stands on (10_state.md R44; 30_encoding.md R91, R98 to R107). -/

namespace Sys2Proof.Laws

open Sys2Proof.Machine

/-- The bounds of the wire forms: bits 31:9 of a command word are 0; a reply has at most 66 bytes, a datagram
and a payload at most 1024, a TX record 1 to 65539, a file read asks for 1 to 65535 bytes. -/
def wireFits : Wire → Prop
  | .command w => w.toNat < 512
  | .rx r => r.length ≤ 66
  | .rxTimeout => True
  | .dgIn _ d => d.length ≤ 1024
  | .tx b => 1 ≤ b.length ∧ b.length ≤ 65539
  | .txClose => True
  | .dgOut _ d => d.length ≤ 1024
  | .fileRead _ n => 1 ≤ n.toNat ∧ n.toNat ≤ 65535
  | .payload _ d => d.length ≤ 1024

/-- A well-formed instruction fits its port. -/
def EncodeFits.Statement (i : Instr) : Prop := WellFormed i = true → wireFits (encode i)

theorem EncodeFits.nop : EncodeFits.Statement .nop := fun _ => by simp [encode, wireFits]
theorem EncodeFits.crc32 : EncodeFits.Statement .crc32 := fun _ => by simp [encode, wireFits]
theorem EncodeFits.bfpack : EncodeFits.Statement .bfpack := fun _ => by simp [encode, wireFits]
theorem EncodeFits.bfunpack : EncodeFits.Statement .bfunpack := fun _ => by simp [encode, wireFits]
theorem EncodeFits.bfclear : EncodeFits.Statement .bfclear := fun _ => by simp [encode, wireFits]
theorem EncodeFits.aesenc : EncodeFits.Statement .aesenc := fun _ => by simp [encode, wireFits]
theorem EncodeFits.aesencS : EncodeFits.Statement .aesencS := fun _ => by simp [encode, wireFits]
theorem EncodeFits.aesdec : EncodeFits.Statement .aesdec := fun _ => by simp [encode, wireFits]
theorem EncodeFits.aesdecS : EncodeFits.Statement .aesdecS := fun _ => by simp [encode, wireFits]
theorem EncodeFits.ecdhgen : EncodeFits.Statement .ecdhgen := fun _ => by simp [encode, wireFits]
theorem EncodeFits.ecdhderive : EncodeFits.Statement .ecdhderive := fun _ => by simp [encode, wireFits]
theorem EncodeFits.ecdhdiscard : EncodeFits.Statement .ecdhdiscard := fun _ => by simp [encode, wireFits]
theorem EncodeFits.xferstart : EncodeFits.Statement .xferstart := fun _ => by simp [encode, wireFits]
theorem EncodeFits.xferabort : EncodeFits.Statement .xferabort := fun _ => by simp [encode, wireFits]
theorem EncodeFits.schreset : EncodeFits.Statement .schreset := fun _ => by simp [encode, wireFits]
theorem EncodeFits.sreset : EncodeFits.Statement .sreset := fun _ => by simp [encode, wireFits]
theorem EncodeFits.rxReply (r : Bytes) : EncodeFits.Statement (.rxReply r) := fun hw => of_decide_eq_true (p := r.length ≤ 66) hw
theorem EncodeFits.rxTimeout : EncodeFits.Statement .rxTimeout := fun _ => trivial
theorem EncodeFits.dgIn (cid : Cid) (d : Bytes) : EncodeFits.Statement (.dgIn cid d) := fun hw => of_decide_eq_true (p := d.length ≤ 1024) hw
theorem EncodeFits.hdrFrame (size : Word) : EncodeFits.Statement (.hdrFrame size) := fun _ => by simp [encode, wireFits, hdrFrameBytes]
theorem EncodeFits.dataFrame (chunk : Bytes) : EncodeFits.Statement (.dataFrame chunk) := fun hw => by
  simp only [WellFormed, Bool.and_eq_true, decide_eq_true_eq] at hw
  simp only [Config.chunkMax] at hw
  simp only [encode, wireFits, dataFrameBytes, toLE16, List.length_append, List.length_cons, List.length_nil]
  omega
theorem EncodeFits.trailerFrame : EncodeFits.Statement .trailerFrame := fun _ => by simp [encode, wireFits, trailerFrameBytes]
theorem EncodeFits.finalAck : EncodeFits.Statement .finalAck := fun _ => by simp [encode, wireFits, finalAckBytes, checkHashBytes]
theorem EncodeFits.txClose : EncodeFits.Statement .txClose := fun _ => trivial
theorem EncodeFits.okReply : EncodeFits.Statement .okReply := fun _ => by simp [encode, wireFits, okBytes]
theorem EncodeFits.trailerReply (h : Bytes) : EncodeFits.Statement (.trailerReply h) := fun hw => by
  simp only [WellFormed, decide_eq_true_eq] at hw
  simp only [Config.rxMax] at hw
  simp only [encode, wireFits, okBytes, List.length_append, List.length_cons, List.length_nil]
  omega
theorem EncodeFits.helloDatagram (cid : Cid) (x y : Num256) : EncodeFits.Statement (.helloDatagram cid x y) := fun _ => by simp [encode, wireFits, helloBytes, cskBytes]
theorem EncodeFits.helloReplyDatagram (cid : Cid) (x y : Num256) : EncodeFits.Statement (.helloReplyDatagram cid x y) := fun _ => by simp [encode, wireFits, helloReplyBytes, sskBytes]
theorem EncodeFits.cipherDatagram (cid : Cid) (d : Bytes) : EncodeFits.Statement (.cipherDatagram cid d) := fun hw => by
  simp only [WellFormed, Bool.and_eq_true, decide_eq_true_eq] at hw
  simp only [Config.dgMax] at hw
  exact hw.2
theorem EncodeFits.fileRead (offset n : Word) : EncodeFits.Statement (.fileRead offset n) := fun hw => by
  simp only [WellFormed, Bool.and_eq_true, decide_eq_true_eq] at hw
  simp only [Config.chunkMax] at hw
  exact hw
theorem EncodeFits.payload (cid : Cid) (d : Bytes) : EncodeFits.Statement (.payload cid d) := fun hw => of_decide_eq_true (p := d.length ≤ 1024) hw

end Sys2Proof.Laws
end

