-- ==== Sys2Proof/Laws/Step.lean ====
section
/-! SUPPORT. What a step can do: one lemma on `step`, one on `deliver`. -/

namespace Sys2Proof.Machine

/-- The step is idle, or takes the oldest pending operation. -/
theorem step_cases (s : State) :
    (s.env.inputs = [] ∧ step s = .next s) ∨
    (∃ x rest, s.env.inputs = x :: rest ∧ step s = deliver x s.popInput) := by
  unfold step
  cases h : s.env.inputs with
  | nil => exact .inl ⟨rfl, rfl⟩
  | cons x rest => exact .inr ⟨x, rest, rfl, rfl⟩

/-- If a presented operation gives a next state, it is an instruction, an illegal command word, a register
write or read, a byte write or read, a draw, a file, or a hardware reset. -/
theorem deliver_cases {x : Input} {s t : State} (h : deliver x s = .next t) :
    (∃ w i, decode w = .ok i ∧ inputOf s.params w = some x ∧ exec i s = .next t) ∨
    (∃ v e, x = .write32 s.params.base v ∧ decodeCommand v = .error e ∧ t = s.illegalCommand) ∨
    (∃ a v, x = .write32 a v ∧ s.wordAccess a = true ∧ s.busOffset a ≠ 0 ∧ t = s.regWrite (s.busOffset a) v) ∨
    (∃ a, x = .read32 a ∧ s.wordAccess a = true ∧ t = s.emit (.hostRead32 a (s.regRead (s.busOffset a)))) ∨
    (∃ a b, x = .write8 a b ∧ s.byteAccess a = true ∧ t = s.hostWrite8 (s.busOffset a - lmemWindow) b) ∨
    (∃ a, x = .read8 a ∧ s.byteAccess a = true ∧
      t = s.emit (.hostRead8 a (s.hostRead8 (s.busOffset a - lmemWindow)))) ∨
    (∃ d, x = .draw d ∧ legalScalar d.toNat = true ∧
      t = { s with env := { s.env with draws := s.env.draws ++ [d] } }) ∨
    (∃ c, x = .file c ∧ s.xfer.state.waiting = false ∧ t = { s with env := { s.env with file := c } }) ∨
    (x = .hwReset ∧ t = s.hwReset) := by
  cases x with
  | write32 o v =>
    simp only [deliver, deliverWrite32] at h
    split at h
    · rename_i hw
      have hb := (s.wordAccess_eq_true o).1 hw
      split at h
      · obtain rfl : o = s.params.base := by
          have : o - s.params.base = 0 := ‹_›
          omega
        simp only [runCommand] at h
        split at h
        · exact .inl ⟨.command v, _, ‹_›, rfl, h⟩
        · cases h; exact .inr (.inl ⟨v, _, rfl, ‹_›, rfl⟩)
      · cases h; exact .inr (.inr (.inl ⟨o, v, rfl, ‹_›, ‹_›, rfl⟩))
    · cases h
  | write16 o v => cases h
  | write8 o b =>
    simp only [deliver, deliverWrite8] at h
    split at h
    · cases h; exact .inr (.inr (.inr (.inr (.inl ⟨o, b, rfl, ‹_›, rfl⟩))))
    · cases h
  | read32 o =>
    simp only [deliver, deliverRead32] at h
    split at h
    · cases h; exact .inr (.inr (.inr (.inl ⟨o, rfl, ‹_›, rfl⟩)))
    · cases h
  | read16 o => cases h
  | read8 o =>
    simp only [deliver, deliverRead8] at h
    split at h
    · cases h; exact .inr (.inr (.inr (.inr (.inr (.inl ⟨o, rfl, ‹_›, rfl⟩)))))
    · cases h
  | rx r =>
    simp only [deliver, runRecord] at h
    split at h
    · exact .inl ⟨.rx r, _, ‹_›, rfl, h⟩
    · cases h
  | rxTimeout =>
    simp only [deliver, runRecord] at h
    split at h
    · exact .inl ⟨.rxTimeout, _, ‹_›, rfl, h⟩
    · cases h
  | dg c d =>
    simp only [deliver, runRecord] at h
    split at h
    · exact .inl ⟨.dgIn c d, _, ‹_›, rfl, h⟩
    · cases h
  | draw d =>
    simp only [deliver, deliverDraw] at h
    split at h
    · cases h; exact .inr (.inr (.inr (.inr (.inr (.inr (.inl ⟨d, rfl, ‹_›, rfl⟩))))))
    · cases h
  | file c =>
    simp only [deliver, deliverFile] at h
    split at h
    · cases h
    · cases h
      exact .inr (.inr (.inr (.inr (.inr (.inr (.inr (.inl ⟨c, rfl, by simpa using ‹¬ s.xfer.state.waiting = true›, rfl⟩)))))))
  | hwReset =>
    cases h; exact .inr (.inr (.inr (.inr (.inr (.inr (.inr (.inr ⟨rfl, rfl⟩)))))))

end Sys2Proof.Machine
end

