-- ==== Sys2Proof/Tests/Slice0.lean ====
section
/-! SUPPORT. Tests: ill-formed terms refused, words and records decoded, one-step checks taken from
spec/95_test_vectors.md, and for each statement with hypotheses a witness that meets them. -/

-- One theorem after the other: checked at the same time they would take one thread each.
set_option Elab.async false

namespace Sys2Proof.Tests

open Sys2Proof.Machine

/-! ## Helpers -/

/-- What a view of the next state shows, if there is a next state. -/
def got {α : Type} (i : Instr) (s : State) (view : State → α) : Option α :=
  match exec i s with
  | .next t => some (view t)
  | .fault _ => none
  | .refused _ => none

/-- The state after an instruction that gives one (else the state itself). -/
def after (i : Instr) (s : State) : State :=
  match exec i s with
  | .next t => t
  | .fault _ => s
  | .refused _ => s

/-- What a view of the state after one step shows. -/
def stepped {α : Type} (s : State) (view : State → α) : Option α :=
  match Machine.step s with
  | .next t => some (view t)
  | .fault _ => none
  | .refused _ => none

/-- The reset state with operands. -/
def args (a0 a1 a2 a3 : Word) : State :=
  { State.reset with arg0 := a0, arg1 := a1, arg2 := a2, arg3 := a3 }

/-- A state with operations pending. -/
def pending (s : State) (xs : List Input) : State := { s with env := { s.env with inputs := xs } }

/-- A state with draws fixed. -/
def withDraws (s : State) (ds : List Num256) : State := { s with env := { s.env with draws := ds } }

/-- Code, `RES0`, `RES1`. -/
def results (t : State) : Code × Word × Word := (t.code, t.res0, t.res1)

/-- A command word from its three fields (R91, R92). -/
def cmdWord (ksel : BitVec 1) (opcode : BitVec 8) : Word := (0 : BitVec 23) ++ ksel ++ opcode

/-! ## Well-formedness: what each check refuses -/

theorem test_wf_reply_67 : WellFormed (.rxReply (zeros 67)) = false := by decide +kernel
theorem test_wf_reply_66 : WellFormed (.rxReply (zeros 66)) = true := by decide +kernel
theorem test_wf_trailer_reply_65 : WellFormed (.trailerReply (zeros 65)) = false := by decide +kernel
theorem test_wf_datagram_1025 : WellFormed (.dgIn 0 (zeros 1025)) = false := by decide +kernel
theorem test_wf_payload_1025 : WellFormed (.payload 0 (zeros 1025)) = false := by decide +kernel
theorem test_wf_cipher_15 : WellFormed (.cipherDatagram 0 (zeros 15)) = false := by decide +kernel
theorem test_wf_cipher_1040 : WellFormed (.cipherDatagram 0 (zeros 1040)) = false := by decide +kernel
theorem test_wf_empty_chunk : WellFormed (.dataFrame []) = false := by decide +kernel
theorem test_wf_long_chunk (c : Bytes) (h : c.length = 65536) : WellFormed (.dataFrame c) = false := by
  simp [WellFormed, h, Config.chunkMax]
theorem test_wf_file_read_0 : WellFormed (.fileRead 0 0) = false := by decide +kernel
theorem test_wf_file_read_65536 : WellFormed (.fileRead 0 65536) = false := by decide +kernel

/-! ## Decoding: words put together from the fields of R91 and R92 -/

theorem test_decode_nop : decodeCommand (cmdWord 0 0b00000000) = .ok .nop := by decide +kernel
theorem test_decode_crc32 : decodeCommand (cmdWord 0 0b00000001) = .ok .crc32 := by decide +kernel
theorem test_decode_bfpack : decodeCommand (cmdWord 0 0b00000010) = .ok .bfpack := by decide +kernel
theorem test_decode_bfunpack : decodeCommand (cmdWord 0 0b00000011) = .ok .bfunpack := by decide +kernel
theorem test_decode_bfclear : decodeCommand (cmdWord 0 0b00000100) = .ok .bfclear := by decide +kernel
theorem test_decode_aesenc : decodeCommand (cmdWord 0 0b00010000) = .ok .aesenc := by decide +kernel
theorem test_decode_aesencS : decodeCommand (cmdWord 1 0b00010000) = .ok .aesencS := by decide +kernel
theorem test_decode_aesdec : decodeCommand (cmdWord 0 0b00010001) = .ok .aesdec := by decide +kernel
theorem test_decode_aesdecS : decodeCommand (cmdWord 1 0b00010001) = .ok .aesdecS := by decide +kernel
theorem test_decode_ecdhgen : decodeCommand (cmdWord 0 0b00100000) = .ok .ecdhgen := by decide +kernel
theorem test_decode_ecdhderive : decodeCommand (cmdWord 0 0b00100001) = .ok .ecdhderive := by
  decide +kernel
theorem test_decode_ecdhdiscard : decodeCommand (cmdWord 0 0b00100010) = .ok .ecdhdiscard := by
  decide +kernel
theorem test_decode_xferstart : decodeCommand (cmdWord 0 0b00110000) = .ok .xferstart := by decide +kernel
theorem test_decode_xferabort : decodeCommand (cmdWord 0 0b00110001) = .ok .xferabort := by decide +kernel
theorem test_decode_schreset : decodeCommand (cmdWord 0 0b01000000) = .ok .schreset := by decide +kernel
theorem test_decode_sreset : decodeCommand (cmdWord 0 0b01111111) = .ok .sreset := by decide +kernel

/-- V-SYS-2: the illegal words, by the reason R91 gives. -/
theorem test_decode_illegal :
    decodeCommand 0x00000005 = .error .unassignedOpcode ∧ decodeCommand 0x000000FF = .error .unassignedOpcode ∧
    decodeCommand 0x00000012 = .error .unassignedOpcode ∧ decodeCommand 0x00000101 = .error .kselNotAllowed ∧
    decodeCommand 0x00000100 = .error .kselNotAllowed ∧ decodeCommand 0x0000017F = .error .kselNotAllowed ∧
    decodeCommand 0x00000201 = .error .reservedBits ∧ decodeCommand 0x80000001 = .error .reservedBits := by
  decide +kernel

/-- V-XFER-1: header, data frame, trailer, final acknowledgement as bytes on the wire. -/
theorem test_decode_frames :
    decodeTx [0xF0, 0x00, 0x04, 0x00, 0x28, 0x23, 0x00, 0x00] = .ok (.hdrFrame 9000) ∧
    decodeTx [0xF1, 0x00, 0x02, 0x00, 0x41, 0x42] = .ok (.dataFrame [0x41, 0x42]) ∧
    decodeTx [0xF2, 0x00, 0x00, 0x00] = .ok .trailerFrame ∧
    decodeTx [0x63, 0x68, 0x65, 0x63, 0x6B, 0x20, 0x68, 0x61, 0x73, 0x68] = .ok .finalAck ∧
    decodeTx [0xF1, 0x00, 0x03, 0x00, 0x41, 0x42] = .error .notAFrame := by decide +kernel

/-- R106, R107: "OK" alone, "OK" with a rest, and neither. -/
theorem test_decode_replies :
    decodeReply [0x4F, 0x4B] = .ok .okReply ∧ decodeReply [0x4F, 0x4B, 0x0A] = .ok (.trailerReply [0x0A]) ∧
    decodeReply [0x4E, 0x4F] = .ok (.rxReply [0x4E, 0x4F]) ∧ decodeReply [] = .ok (.rxReply []) ∧
    decodeReply (zeros 67) = .error .recordTooLong := by decide +kernel

/-- R98, R99, R100: a hello of 68 bytes, a hello reply, whole blocks, and neither. -/
theorem test_decode_datagrams :
    decodeDatagram 9 ([0x63, 0x73, 0x6B, 0x3A] ++ (zeros 31 ++ [0x05]) ++ (0x80 :: zeros 31)) =
      .ok (.helloDatagram 9 5 (2 ^ 255)) ∧
    decodeDatagram 9 (zeros 16) = .ok (.cipherDatagram 9 (zeros 16)) ∧
    decodeDatagram 9 [0x63, 0x73, 0x6B] = .ok (.dgIn 9 [0x63, 0x73, 0x6B]) ∧
    decodeDgOut 9 ([0x73, 0x73, 0x6B, 0x3A] ++ (zeros 31 ++ [0x05]) ++ (0x80 :: zeros 31)) =
      .ok (.helloReplyDatagram 9 5 (2 ^ 255)) := by decide +kernel

/-- R44: the records without bytes, a file read, a payload. -/
theorem test_decode_events :
    decode .rxTimeout = .ok .rxTimeout ∧ decode .txClose = .ok .txClose ∧
    decode (.fileRead 4 2) = .ok (.fileRead 4 2) ∧ decode (.payload 7 [0x61]) = .ok (.payload 7 [0x61]) := by
  decide +kernel

/-- The host's two probes: the decoder's answer, and the first step after reset. -/
theorem test_table_word : decodeTableWord 32 0x110 = some .aesencS ∧
    stepped (State.reset.withFetchWord 32 0x22) results = some (.ok, 0, 0) := by decide +kernel

/-! ## CRC unit (V-CRC) -/

/-- "123456789" at 0x100. -/
def digitsAt100 : State :=
  (args 0x100 9 0 0).memWrite 0x100 [0x31, 0x32, 0x33, 0x34, 0x35, 0x36, 0x37, 0x38, 0x39]

/-- V-CRC-5. -/
theorem test_crc32_digits : got .crc32 digitsAt100 results = some (.ok, 0xCBF43926, 0) := by decide +kernel
/-- V-CRC-20, V-CRC-21, V-CRC-23. -/
theorem test_crc32_range : got .crc32 (args 0x4000 0 0 0) results = some (.ok, 0, 0) ∧
    got .crc32 (args 0x4001 0 0 0) results = some (.errAddr, 0, 0) ∧
    got .crc32 (args 0xFFFFFFFF 2 0 0) results = some (.errAddr, 0, 0) := by decide +kernel

/-! ## Bit-field unit (V-BFP) -/

/-- `bfsetup 0x200, 0x300, size` with operands; record and mask words at offset `o` given. -/
def bfState (size : Word) (o : Nat) (rec mask : Word) (a0 a1 a2 : Word) : State :=
  { ((args a0 a1 a2 0).memWrite (0x200 + o) (toLE32 rec)).memWrite (0x300 + o) (toLE32 mask) with
    bf := { recBase := 0x200, maskBase := 0x300, recSize := size } }

/-- V-BFP-2, step 2, with the bytes of the record. -/
theorem test_bfpack : got .bfpack (bfState 128 0 3 3 0 0x0000041C 0xA) (fun t => (results t, t.memRead 0x200 4)) =
    some ((.ok, 0xA0000003, 0xF0000003), [0x03, 0x00, 0x00, 0xA0]) := by decide +kernel
/-- V-BFP-6: a value too wide is not masked. -/
theorem test_bfpack_wide : got .bfpack (bfState 128 0 0 0 0 0x00000404 0x1F) results =
    some (.ok, 0x000001F0, 0x000000F0) := by decide +kernel
/-- V-BFP-2 and V-BFP-8. -/
theorem test_bfunpack : got .bfunpack (bfState 128 4 0xABC0 0 4 0x00000C04 0) results = some (.ok, 0xABC, 0) ∧
    got .bfunpack (bfState 128 4 0xABC0 0 4 0x0000021F 0) results = some (.errArg, 0, 0) := by decide +kernel
/-- V-BFP-1, on a record of 4 bytes: the byte after the record is not touched. -/
theorem test_bfclear : got .bfclear ((bfState 4 0 0xAAAAAAAA 0x55555555 0 0 0).memWrite 0x204 [0xAA])
    (fun t => (results t, t.memRead 0x200 5, t.memRead 0x300 4)) =
    some ((.ok, 0, 0), [0, 0, 0, 0, 0xAA], [0, 0, 0, 0]) := by decide +kernel

/-! ## AES unit (V-AES) -/

/-- `K0` at 0x40 and bytes at 0x100, with operands. -/
def aesState (bytes : Bytes) (a0 a1 a2 a3 : Word) : State :=
  ((args a0 a1 a2 a3).memWrite 0x40 [0, 1, 2, 3, 4, 5, 6, 7, 8, 9, 10, 11, 12, 13, 14, 15]).memWrite 0x100 bytes

/-- V-AES-1. -/
theorem test_aesenc :
    got .aesenc (aesState [0x30, 0x31, 0x32, 0x33, 0x34, 0x35, 0x36, 0x37, 0x38, 0x39] 0x100 10 0x200 0x40)
      (fun t => (results t, t.memRead 0x200 16)) =
    some ((.ok, 16, 0), [0x30, 0x78, 0x15, 0xD9, 0x0C, 0x0C, 0x33, 0x5E, 0xF7, 0x07, 0x54, 0x2B, 0x1D, 0xA2,
      0xDD, 0xAB]) := by decide +kernel
/-- V-AES-34, V-AES-36. -/
theorem test_aesenc_range : got .aesenc (args 0x100 17 0x3FF0 0x40) results = some (.errAddr, 0, 0) ∧
    got .aesenc (args 0x100 10 0x200 0x3FF1) results = some (.errAddr, 0, 0) := by decide +kernel
/-- V-AES-31 (in place; only ten bytes are written). -/
theorem test_aesdec :
    got .aesdec (aesState [0x30, 0x78, 0x15, 0xD9, 0x0C, 0x0C, 0x33, 0x5E, 0xF7, 0x07, 0x54, 0x2B, 0x1D, 0xA2,
      0xDD, 0xAB] 0x100 16 0x100 0x40) (fun t => (results t, t.memRead 0x100 16)) =
    some ((.ok, 10, 16), [0x30, 0x31, 0x32, 0x33, 0x34, 0x35, 0x36, 0x37, 0x38, 0x39, 0x54, 0x2B, 0x1D, 0xA2,
      0xDD, 0xAB]) := by decide +kernel
/-- V-AES-16, V-AES-39. -/
theorem test_aesdec_length : got .aesdec (args 0x200 15 0x300 0x40) results = some (.errCryptoLen, 0, 0) ∧
    got .aesdec (args 0x100 15 0x3FF8 0x40) results = some (.errAddr, 0, 0) := by decide +kernel

/-! ## ECDH unit (V-ECDH); keys of 43_ecdh_p256.md R209 -/

/-- `P(1)`. -/
def key1 : Bytes :=
  toBE256 0x6b17d1f2e12c4247f8bce6e563a440f277037d812deb33a0f4a13945d898c296 ++
  toBE256 0x4fe342e2fe1a7f9b8ee7eb4a7c0f9e162bce33576b315ececbb6406837bf51f5
/-- `P(2)`. -/
def key2 : Bytes :=
  toBE256 0x7cf27b188d034f7e8a52380304b51ac3c08969e277f21b35a60b48fc47669978 ++
  toBE256 0x07775510db8ed040293d9ac69f7430dbba7dade63ce982299e04b79d227873d1

/-- The keyed state of V-ECDH-1: scalar 1. -/
def keyed1 : EcdhSession := { d := 1, q := key1, ss := zeros 32, keyValid := true, ssValid := false }
/-- The agreed state of V-ECDH-1. -/
def agreed : EcdhSession := { keyed1 with ss := key2.take 32, ssValid := true }

/-- R209, `d = 2`. -/
theorem test_ecdhgen : got .ecdhgen (withDraws (args 0x400 0 0 0) [2])
    (fun t => (results t, t.memRead 0x400 64, t.ecdhStatusWord, t.env.draws)) =
    some ((.ok, 64, 0), key2, 1, []) := by decide +kernel
/-- V-ECDH-4: `ERR_ADDR` consumes no draw. -/
theorem test_ecdhgen_range : got .ecdhgen (withDraws (args 0x3FC1 0 0 0) [2]) (fun t => (results t, t.env.draws)) =
    some ((.errAddr, 0, 0), [2]) := by decide +kernel
/-- V-ECDH-1. -/
theorem test_ecdhderive :
    got .ecdhderive { (args 0x500 64 0x600 0).memWrite 0x500 key2 with ecdh := keyed1 }
      (fun t => (results t, t.memRead 0x600 32, t.ecdhStatusWord)) =
    some ((.ok, 32, 0), key2.take 32, 3) := by decide +kernel
/-- V-ECDH-3, 64 zero bytes. -/
theorem test_ecdhderive_bad :
    got .ecdhderive { (args 0x500 64 0x600 0).memWrite 0x500 (zeros 64) with ecdh := keyed1 }
      (fun t => (results t, t.ecdh)) = some ((.errCryptoPeerKey, 0, 0), EcdhSession.empty) := by decide +kernel
/-- V-ECDH-2. -/
theorem test_ecdhdiscard : got .ecdhdiscard { State.reset with ecdh := agreed } (fun t => t.ecdh) =
    some EcdhSession.empty := by decide +kernel
/-- V-ECDH-1: "stop" under the shared secret; the session is gone. -/
theorem test_aesencS :
    got .aesencS { aesState [0x73, 0x74, 0x6F, 0x70] 0x100 4 0x200 0 with ecdh := agreed }
      (fun t => (results t, t.memRead 0x200 16, t.ecdhStatusWord)) =
    some ((.ok, 16, 0), [0xE1, 0x69, 0x10, 0x87, 0x1D, 0x77, 0x3D, 0x67, 0x63, 0x28, 0xDB, 0xC4, 0xFA, 0xD1,
      0x54, 0x08], 0) := by decide +kernel
/-- V-AES-37. -/
theorem test_aesencS_none : got .aesencS (args 0x100 10 0x200 0) results =
    some (.errCryptoNoSession, 0, 0) := by decide +kernel
/-- V-ECDH-6, the last case. -/
theorem test_aesdecS :
    got .aesdecS { aesState [0xE1, 0x69, 0x10, 0x87, 0x1D, 0x77, 0x3D, 0x67, 0x63, 0x28, 0xDB, 0xC4, 0xFA, 0xD1,
      0x54, 0x08] 0x100 16 0x300 0 with ecdh := agreed }
      (fun t => (results t, t.memRead 0x300 4, t.ecdhStatusWord)) =
    some ((.ok, 4, 16), [0x73, 0x74, 0x6F, 0x70], 0) := by decide +kernel
/-- V-ECDH-6, the first two cases. -/
theorem test_aesdecS_errors :
    got .aesdecS { args 0x200 15 0x300 0 with ecdh := agreed } (fun t => (t.code, t.ecdhStatusWord)) =
      some (.errCryptoLen, 0) ∧
    got .aesdecS { args 0x4000 16 0x300 0 with ecdh := agreed } (fun t => (t.code, t.ecdhStatusWord)) =
      some (.errAddr, 3) := by decide +kernel

/-! ## Transfer unit (V-XFER, program P4) -/

/-- Program P4 in a given state, with offset and length of the last chunk: the file is "ABCDE", the chunk size 2. -/
def p4 (st : XferState) (off last : Word) : State :=
  { State.reset with
    xfer := { chunk := 2, timeout := 1000, state := st, err := .none, size := 5, off := off, last := last,
              hash := #v[0xEB3F39F0, 0x55AABAE8, 0xE27B2FE3, 0x0B18CCA7, 0x13524EF3, 0x56E0997D, 0xC0A917C8,
                         0x9A238F7B] }
    env := { State.reset.env with file := [0x41, 0x42, 0x43, 0x44, 0x45] } }

/-- "f0393feb…8f239a", the digest of P4 in ASCII. -/
def p4Hex : Bytes :=
  [0x66, 0x30, 0x33, 0x39, 0x33, 0x66, 0x65, 0x62, 0x65, 0x38, 0x62, 0x61, 0x61, 0x61, 0x35, 0x35,
   0x65, 0x33, 0x32, 0x66, 0x37, 0x62, 0x65, 0x32, 0x61, 0x37, 0x63, 0x63, 0x31, 0x38, 0x30, 0x62,
   0x66, 0x33, 0x34, 0x65, 0x35, 0x32, 0x31, 0x33, 0x37, 0x64, 0x39, 0x39, 0x65, 0x30, 0x35, 0x36,
   0x63, 0x38, 0x31, 0x37, 0x61, 0x39, 0x63, 0x30, 0x37, 0x62, 0x38, 0x66, 0x32, 0x33, 0x39, 0x61]

/-- What a transfer test looks at: `XFER_STATUS`, `XFER_OFF`, `XFER_LAST`, the records put out. -/
def xferView (t : State) : Word × Word × Word × List Output :=
  (t.xferStatusWord, t.xfer.off, t.xfer.last, t.env.out)

/-- V-XFER-1, first row. -/
theorem test_xferstart : got .xferstart (args 9000 0 0 0) (fun t => (results t, xferView t)) =
    some ((.ok, 3, 0), 0x01, 0, 0, [.tx [0xF0, 0x00, 0x04, 0x00, 0x28, 0x23, 0x00, 0x00]]) := by decide +kernel
/-- V-XFER-1, second row; V-XFER-4, chunk size 65536. -/
theorem test_xferstart_errors : got .xferstart (p4 .waitHdrAck 0 0) results = some (.errState, 0, 0) ∧
    got .xferstart { args 10 0 0 0 with xfer := { Xfer.reset with chunk := 65536 } } results =
      some (.errArg, 0, 0) := by decide +kernel
/-- P4, step 5. -/
theorem test_okReply : got .okReply (p4 .waitChunkAck 2 2) xferView =
    some (0x02, 4, 2, [.fileRead 2 2 [0x43, 0x44], .tx [0xF1, 0x00, 0x02, 0x00, 0x43, 0x44]]) := by
  decide +kernel
/-- P4, steps 6 and 7: the short last chunk, then the trailer. -/
theorem test_okReply_last : got .okReply (p4 .waitChunkAck 4 2) xferView =
      some (0x02, 5, 1, [.fileRead 4 1 [0x45], .tx [0xF1, 0x00, 0x01, 0x00, 0x45]]) ∧
    got .okReply (p4 .waitChunkAck 5 1) xferView = some (0x03, 5, 1, [.tx [0xF2, 0x00, 0x00, 0x00]]) := by
  decide +kernel
/-- P4, step 8. -/
theorem test_trailerReply : got (.trailerReply p4Hex) (p4 .waitTrailerReply 5 1) xferView =
    some (0x04, 5, 1, [.tx [0x63, 0x68, 0x65, 0x63, 0x6B, 0x20, 0x68, 0x61, 0x73, 0x68], .txClose]) := by
  decide +kernel
/-- V-XFER-2, "OK" with the first 63 digits. -/
theorem test_trailerReply_short : got (.trailerReply (p4Hex.take 63)) (p4 .waitTrailerReply 5 1) xferView =
    some (0x45, 5, 1, [.txClose]) := by decide +kernel
/-- P4 variant "NAK"; V-XFER-2, "O" for the trailer. -/
theorem test_rxReply : got (.rxReply [0x4E, 0x41, 0x4B]) (p4 .waitChunkAck 4 2) xferView =
      some (0x25, 4, 2, [.txClose]) ∧
    got (.rxReply [0x4F]) (p4 .waitTrailerReply 5 1) xferView = some (0x35, 5, 1, [.txClose]) := by
  decide +kernel
/-- P4 variant: the timeout; V-XFER-1: dropped in a resting state. -/
theorem test_rxTimeout : got .rxTimeout (p4 .waitChunkAck 5 1) xferView = some (0x55, 5, 1, [.txClose]) ∧
    got .rxTimeout (p4 .done 5 1) xferView = some (0x04, 5, 1, []) := by decide +kernel
/-- V-XFER-2, the last two rows. -/
theorem test_xferabort : got .xferabort (p4 .waitChunkAck 4 2) xferView = some (0x65, 4, 2, [.txClose]) ∧
    got .xferabort (p4 .done 5 1) xferView = some (0x00, 5, 1, []) := by decide +kernel

/-! ## Secure channel (V-SCH) -/

/-- Mode `ECDH` with one session of client 9, or none. -/
def schState (sess : List Session) : State :=
  { State.reset with sch := { mode := .ecdh, last := .ok, psk := #v[0, 0, 0, 0], sess := sess } }

/-- `KX` of the test vectors' head, as the session key of client 9. -/
def session9 : Session :=
  { cid := 9, key := [0x4F, 0xE2, 0x43, 0x90, 0x8F, 0x37, 0x8A, 0xA1, 0xC2, 0xA6, 0x95, 0x38, 0x82, 0x2E, 0x6E, 0xD9] }

/-- Mode `PSK` with `K0`. -/
def pskState : State :=
  { State.reset with
    sch := { mode := .psk, last := .ok, sess := [], psk := #v[0x03020100, 0x07060504, 0x0B0A0908, 0x0F0E0D0C] } }

/-- `SCH_STATUS`, the table, the records put out. -/
def schView (t : State) : Word × List Session × List Output := (t.schStatusWord, t.sch.sess, t.env.out)

/-- V-SCH-15, first row. -/
theorem test_helloDatagram :
    got (.helloDatagram 1 0x7cf27b188d034f7e8a52380304b51ac3c08969e277f21b35a60b48fc47669978
        0x07775510db8ed040293d9ac69f7430dbba7dade63ce982299e04b79d227873d1)
      (withDraws (schState []) [1]) schView =
    some (0x0100, [{ cid := 1, key := [0x7C, 0xF2, 0x7B, 0x18, 0x8D, 0x03, 0x4F, 0x7E, 0x8A, 0x52, 0x38, 0x03,
      0x04, 0xB5, 0x1A, 0xC3] }], [.dgOut 1 ([0x73, 0x73, 0x6B, 0x3A] ++ key1)]) := by decide +kernel
/-- V-SCH-12: a second hello removes the session. -/
theorem test_helloDatagram_again : got (.helloDatagram 9 0 0) (schState [session9]) schView =
    some (0x0011, [], []) := by decide +kernel
/-- V-SCH-8. -/
theorem test_cipherDatagram :
    got (.cipherDatagram 9 [0x5F, 0x22, 0x9B, 0x7B, 0x14, 0x0B, 0x9D, 0x5D, 0xC4, 0xCF, 0x40, 0x0E, 0x96, 0xBB,
      0xFB, 0x90]) (schState [session9]) schView =
    some (0x0000, [], [.payload 9 [0x73, 0x74, 0x6F, 0x70]]) := by decide +kernel
/-- V-SCH-3; V-SCH-5 (15 bytes). -/
theorem test_cipherDatagram_psk :
    got (.cipherDatagram 7 (zeros 15)) pskState schView = some (0x0011, [], []) ∧
    got (.cipherDatagram 7 [0x88, 0x2C, 0x39, 0x0C, 0xB2, 0xBA, 0x7D, 0x1B, 0x2F, 0x68, 0x0C, 0xBB, 0x0E, 0x68,
      0x3F, 0x53]) pskState schView =
    some (0x0000, [], [.payload 7 [0x73, 0x74, 0x6F, 0x70]]) := by decide +kernel
/-- V-SCH-10, V-SCH-11 (the empty key). -/
theorem test_dgIn_refused : got (.dgIn 9 [0x63, 0x73, 0x6B]) (schState []) schView = some (0x0012, [], []) ∧
    got (.dgIn 9 [0x63, 0x73, 0x6B, 0x3A]) (schState []) schView = some (0x0010, [], []) := by decide +kernel
/-- V-SCH-1. -/
theorem test_dgIn_off : got (.dgIn 7 [0x73, 0x74, 0x6F, 0x70]) State.reset schView =
    some (0x0000, [], [.payload 7 [0x73, 0x74, 0x6F, 0x70]]) := by decide +kernel
/-- V-SCH-13. -/
theorem test_schreset : got .schreset (schState [session9]) schView = some (0x0000, [], []) := by decide +kernel

/-! ## System and records -/

/-- V-SYS-2, the last sentence. -/
theorem test_nop : got .nop { State.reset with code := .errIllegalCmd, res0 := 7 } results = some (.ok, 0, 0) := by
  decide +kernel
/-- V-SYS-3 (shortened): a transfer in flight is closed, LMEM is kept. -/
theorem test_sreset : got .sreset ((p4 .waitHdrAck 0 0).memWrite 0x10 [0x77])
    (fun t => (t.memRead 0x10 1, t.xfer, t.env.out)) = some ([0x77], Xfer.reset, [.txClose]) := by decide +kernel
/-- V-XFER-1, V-XFER-5: the frames as bytes. -/
theorem test_frames : got (.hdrFrame 9000) State.reset (fun t => t.env.out) =
      some [.tx [0xF0, 0x00, 0x04, 0x00, 0x28, 0x23, 0x00, 0x00]] ∧
    got (.dataFrame [0x41]) State.reset (fun t => t.env.out) = some [.tx [0xF1, 0x00, 0x01, 0x00, 0x41]] ∧
    got .trailerFrame State.reset (fun t => t.env.out) = some [.tx [0xF2, 0x00, 0x00, 0x00]] ∧
    got .finalAck State.reset (fun t => t.env.out) =
      some [.tx [0x63, 0x68, 0x65, 0x63, 0x6B, 0x20, 0x68, 0x61, 0x73, 0x68]] ∧
    got .txClose State.reset (fun t => t.env.out) = some [.txClose] := by decide +kernel
/-- V-SCH-15 (the reply), P4 step 4 (the read), V-SCH-1 (the payload). -/
theorem test_records :
    got (.helloReplyDatagram 1 0x6b17d1f2e12c4247f8bce6e563a440f277037d812deb33a0f4a13945d898c296
      0x4fe342e2fe1a7f9b8ee7eb4a7c0f9e162bce33576b315ececbb6406837bf51f5) State.reset (fun t => t.env.out) =
      some [.dgOut 1 ([0x73, 0x73, 0x6B, 0x3A] ++ key1)] ∧
    got (.fileRead 0 2) (p4 .waitHdrAck 0 0) (fun t => t.env.out) = some [.fileRead 0 2 [0x41, 0x42]] ∧
    got (.payload 7 [0x73]) State.reset (fun t => t.env.out) = some [.payload 7 [0x73]] := by decide +kernel

/-! ## Host accesses -/

/-- V-SCH-14, `mw`/`mr` of one byte, and R35: the word of `SCH_PSK1` is key bytes 4 to 7. -/
theorem test_host_writes :
    stepped (pending (schState [session9]) [.write32 0x68 3]) schView = some (0x0100, [session9], []) ∧
    stepped (pending (schState [session9]) [.write32 0x68 2]) schView = some (0x0000, [], []) ∧
    stepped (pending State.reset [.write8 0x10010 0x77]) (fun t => t.memRead 0x10 1) = some [0x77] ∧
    stepped (pending State.reset [.write32 0x74 0x07060504]) (fun t => t.pskBytes) =
      some (zeros 4 ++ [0x04, 0x05, 0x06, 0x07] ++ zeros 8) := by
  decide +kernel
/-- V-SYS-1 and R67. -/
theorem test_host_reads :
    stepped (pending State.reset [.read32 0x34]) (fun t => t.env.out) = some [.hostRead32 0x34 0x3E8] ∧
    stepped (pending State.reset [.read32 0x80]) (fun t => t.env.out) = some [.hostRead32 0x80 0] ∧
    stepped (pending State.reset [.read16 0x34]) (fun t => t.env.out) = none := by decide +kernel

/-- A block at `BASE = 0x2000` whose decoded region goes on for 16 bytes after LMEM. -/
def wideRegion : State :=
  { State.reset with params := { base := 0x2000, regionSize := 0x10000 + 16400, lmemSize := 16384, nsess := 2 } }

/-- R61 (the last byte of LMEM), U14 (the offset after it, whether the decoded region ends there or not), and R24
(offsets from a `BASE` that is not 0). -/
theorem test_lmem_window :
    stepped (pending State.reset [.write8 0x13FFF 0x77]) (fun t => t.memRead 0x3FFF 1) = some [0x77] ∧
    stepped (pending State.reset [.read8 0x14000]) (fun t => t.env.out) = none ∧
    stepped (pending wideRegion [.write8 0x15FFF 0x77]) (fun t => t.memRead 0x3FFF 1) = some [0x77] ∧
    stepped (pending wideRegion [.read8 0x16000]) (fun t => t.env.out) = none ∧
    stepped (pending wideRegion [.write8 0x16000 1]) (fun t => t.lmem) = none ∧
    wideRegion.hostRead8 0x4000 = 0 ∧ wideRegion.hostWrite8 0x4000 1 = wideRegion ∧
    stepped (pending wideRegion [.write32 0x2008 7]) (fun t => t.arg0) = some 7 ∧
    stepped (pending wideRegion [.write32 0x2000 0x05]) results = some (.errIllegalCmd, 0, 0) ∧
    stepped (pending wideRegion [.read32 0x1FFC]) (fun t => t.env.out) = none := by decide +kernel

/-- R12, big-endian packing; the magic of C4, whose bytes are `42 46 50 54`. -/
theorem test_be32 : toBE32 0x42465054 = [0x42, 0x46, 0x50, 0x54] ∧ be32 [0x42, 0x46, 0x50, 0x54] = 0x42465054 := by
  decide +kernel

/-- The status registers, put together from the field tables of R24, R25, R27, R33, R34 and the numbers of R341: an
illegal word; a secret held; a transfer failed in its data phase; mode `ECDH`; one session and a bad peer key. -/
theorem test_status_reads :
    stepped (pending { State.reset with code := .errIllegalCmd } [.read32 0x04]) (fun t => t.env.out) =
      some [.hostRead32 0x04 0x01] ∧
    stepped (pending { State.reset with ecdh := agreed } [.read32 0x2C]) (fun t => t.env.out) =
      some [.hostRead32 0x2C 0x3] ∧
    stepped (pending { State.reset with xfer := { Xfer.reset with state := .failed, err := .error2 } }
      [.read32 0x38]) (fun t => t.env.out) = some [.hostRead32 0x38 0x25] ∧
    stepped (pending (schState [session9]) [.read32 0x68]) (fun t => t.env.out) = some [.hostRead32 0x68 0x2] ∧
    stepped (pending ((schState [session9]).setLast .errCryptoPeerKey) [.read32 0x6C]) (fun t => t.env.out) =
      some [.hostRead32 0x6C 0x110] := by decide +kernel

/-! ## Witnesses: for each statement with hypotheses, values that meet them (boundaries where clauses meet) -/

theorem next_of_got {α : Type} {i : Instr} {s : State} {view : State → α} {v : α} (h : got i s view = some v) :
    ∃ t, exec i s = .next t ∧ view t = v := by
  unfold got at h
  split at h
  · exact ⟨_, by assumption, Option.some.inj h⟩
  · cases h
  · cases h

theorem next_of_stepped {α : Type} {s : State} {view : State → α} {v : α} (h : stepped s view = some v) :
    ∃ t, Machine.step s = .next t ∧ view t = v := by
  unfold stepped at h
  split at h
  · exact ⟨_, by assumption, Option.some.inj h⟩
  · cases h
  · cases h

/-- The condition of R91 as the statement writes it. -/
def illegalWord (c : Word) : Prop :=
  c.toNat / 512 ≠ 0 ∨
    c.toNat % 256 ∉ [0x00, 0x01, 0x02, 0x03, 0x04, 0x10, 0x11, 0x20, 0x21, 0x22, 0x30, 0x31, 0x40, 0x7F] ∨
    (c.getLsbD 8 = true ∧ c.toNat % 256 ≠ 0x10 ∧ c.toNat % 256 ≠ 0x11)

theorem witness_CommandWordIsIllegalExactlyAsR91Says :
    illegalWord 0x200 ∧ illegalWord 0x05 ∧ illegalWord 0x101 ∧ ¬ illegalWord 0x110 ∧ ¬ illegalWord 0x7F := by
  unfold illegalWord; decide +kernel

/-- For EncodeThenDecodeGivesTheInstruction and CanonicalNameKeepsBytesAndMeaning: terms at their bounds. -/
theorem witness_WellFormed :
    WellFormed .sreset = true ∧ WellFormed (.rxReply (zeros 66)) = true ∧
    WellFormed (.trailerReply (zeros 64)) = true ∧ WellFormed (.dgIn 0 (zeros 1024)) = true ∧
    WellFormed (.cipherDatagram 0 (zeros 1024)) = true ∧ WellFormed (.dataFrame [0]) = true ∧
    WellFormed (.fileRead 0 65535) = true ∧ WellFormed (.payload 0 (zeros 1024)) = true := by decide +kernel

theorem witness_DecodedWireEncodesBack :
    decode (.command 0x111) = .ok .aesdecS ∧ decode (.rx (zeros 66)) = .ok (.rxReply (zeros 66)) ∧
    decode (.fileRead 0 1) = .ok (.fileRead 0 1) := by decide +kernel

theorem witness_StepRunsTheDecodedInstruction :
    (pending State.reset [.rx [0x4F, 0x4B]]).env.inputs = [.rx [0x4F, 0x4B]] ∧
    inputOf State.reset.params (.rx [0x4F, 0x4B]) = some (.rx [0x4F, 0x4B]) ∧ decode (.rx [0x4F, 0x4B]) = .ok .okReply ∧
    inputOf State.reset.params (.command 0x40) = some (.write32 0 0x40) ∧ decode (.command 0x40) = .ok .schreset ∧
    State.reset.env.inputs = [] := by decide +kernel

theorem witness_IllegalCommandOnlyReportsItself :
    (pending State.reset [.write32 0 0x05]).env.inputs = [.write32 0 0x05] ∧
    decodeCommand 0x05 = .error .unassignedOpcode := by decide +kernel

theorem witness_StepCompletesExactlyOnAllowedInputs :
    Input.allowed State.reset (.write32 0xFFFC 0) = true ∧ Input.allowed State.reset (.write32 0x10000 0) = false ∧
    Input.allowed State.reset (.read8 0x10000) = true ∧ Input.allowed State.reset (.rx (zeros 66)) = true ∧
    Input.allowed State.reset (.rx (zeros 67)) = false := by decide +kernel

/-- In mid-transfer, with the reply that brings the next chunk. -/
theorem witness_StepKeepsTheInvariants :
    State.Inv (pending (p4 .waitChunkAck 2 2) [.rx [0x4F, 0x4B]]) ∧
    ∃ t, Machine.step (pending (p4 .waitChunkAck 2 2) [.rx [0x4F, 0x4B]]) = .next t ∧ t.xfer.off = 4 :=
  ⟨by decide +kernel, next_of_stepped (by decide +kernel)⟩

theorem witness_ErrorCompletionHasNoOtherEffect :
    (∃ t, exec .crc32 (args 0x4001 0 0 0) = .next t ∧ t.code = .errAddr) ∧
    (∃ t, exec .aesdecS { args 0x200 15 0x300 0 with ecdh := agreed } = .next t ∧ t.code = .errCryptoLen) :=
  ⟨next_of_got (by decide +kernel), next_of_got (by decide +kernel)⟩

/-- For CommandsEndWithTheirCodes, and the reset state's invariant for OutputRecordsAreWithinPortBounds. -/
theorem witness_CommandsEndWithTheirCodes : Instr.isCommand .aesdecS = true ∧ Instr.isCommand .nop = true := by
  decide

/-- For OnlySixCommandsWriteLmem, CommandsKeepOperandsAndConfiguration, OutputRecordsAreWithinPortBounds and
ReplyEventsWriteOnlyTheTransferUnit. -/
theorem witness_reply_frames :
    WellFormed .okReply = true ∧ State.Inv (p4 .waitChunkAck 2 2) ∧
    (∃ t, exec .okReply (p4 .waitChunkAck 2 2) = .next t ∧ t.xfer.off = 4) :=
  ⟨rfl, by decide +kernel, next_of_got (by decide +kernel)⟩

theorem witness_HardwareResetEmitsNothing :
    (pending (p4 .waitChunkAck 2 2) [.hwReset]).env.inputs = [.hwReset] := rfl

theorem witness_Crc32ReportsTheCrcOfTheRange :
    (args 0x4000 0 0 0).arg0.toNat + (args 0x4000 0 0 0).arg1.toNat ≤ State.reset.params.lmemSize ∧
    State.reset.params.lmemSize < (args 0x4000 1 0 0).arg0.toNat + (args 0x4000 1 0 0).arg1.toNat := by
  decide +kernel

/-- Each clause: the five bad descriptors of V-BFP-8, regions that overlap by one byte, regions that only
touch, a record and a mask one byte too long for LMEM, a word one byte past the record. -/
theorem witness_BitFieldChecksInOrder :
    got .bfpack (bfState 128 0 0 0 0 0x00010100 0) results = some (.errArg, 0, 0) ∧
    got .bfunpack (bfState 128 0 0 0 0 0x00000120 0) results = some (.errArg, 0, 0) ∧
    got .bfpack { bfState 128 0 0 0 0 0x0100 0 with bf := { recBase := 0x200, maskBase := 0x27F, recSize := 128 } }
      results = some (.errArg, 0, 0) ∧
    got .bfclear { bfState 128 0 0 0 0 0x0100 0 with bf := { recBase := 0x200, maskBase := 0x280, recSize := 128 } }
      results = some (.ok, 0, 0) ∧
    got .bfpack { bfState 128 0 0 0 0 0x0100 0 with bf := { recBase := 0x3F81, maskBase := 0, recSize := 128 } }
      results = some (.errAddr, 0, 0) ∧
    got .bfclear { bfState 128 0 0 0 0 0x0100 0 with bf := { recBase := 0, maskBase := 0x3F81, recSize := 128 } }
      results = some (.errAddr, 0, 0) ∧
    got .bfunpack (bfState 128 0 0 0 125 0x0100 0) results = some (.errAddr, 0, 0) := by decide +kernel

/-- The last word of the record, the field that ends at bit 31, regions that touch. -/
def bfEdge : State :=
  { bfState 128 124 0 0 124 0x041C 0xA with bf := { recBase := 0x280, maskBase := 0x200, recSize := 128 } }

/-- For BfpackWritesFieldAndMask, BfunpackReadsTheField and BfclearZeroesBothRegions. -/
theorem witness_bit_field_operands :
    bfEdge.arg1.toNat = 28 + 256 * 4 ∧ 28 + 4 ≤ 32 ∧
    bfEdge.bf.maskBase.toNat + bfEdge.bf.recSize.toNat ≤ bfEdge.bf.recBase.toNat ∧
    bfEdge.bf.recBase.toNat + bfEdge.bf.recSize.toNat ≤ bfEdge.params.lmemSize ∧
    bfEdge.bf.maskBase.toNat + bfEdge.bf.recSize.toNat ≤ bfEdge.params.lmemSize ∧
    bfEdge.arg0.toNat + 4 ≤ bfEdge.bf.recSize.toNat := by decide +kernel

/-- For BitFieldRoundTrip (a value that does not fit) and BfpackChangesOnlyTheField (one that does). -/
theorem witness_bit_field_runs :
    got .bfpack (bfState 128 0 0 0 0 0x0404 0x1F) results = some (.ok, 0x1F0, 0xF0) ∧
    got .bfunpack (after .bfpack (bfState 128 0 0 0 0 0x0404 0x1F)) results = some (.ok, 0xF, 0) ∧
    got .bfpack (bfState 128 0 0 0 0 0x0404 0xF) results = some (.ok, 0xF0, 0xF0) ∧
    (0xF : Word).toNat < 2 ^ ((0x0404 : Word).toNat / 256 % 256) := by decide +kernel

/-- For AesBlockCiphersAreInverse, CbcRoundTrip and EqualPrefixesShow (`j = 1`). -/
theorem witness_aes_values :
    (zeros 16).length = 16 ∧ (∀ x ∈ ([1, 2] : Bytes), x ≠ 0) ∧ 16 * 1 ≤ (zeros 16 ++ [1]).length ∧
    (zeros 16 ++ [1]).take (16 * 1) = (zeros 16 ++ [2]).take (16 * 1) := by decide +kernel

/-- For AesencEncryptsTheRange and AesdecDecryptsAndTruncates: ranges that end where LMEM ends. -/
theorem witness_aes_ranges :
    let s : State := { args 0x3FF0 16 0x3FF0 0x3FF0 with ecdh := agreed }
    s.arg0.toNat + s.arg1.toNat ≤ s.params.lmemSize ∧ s.arg2.toNat + (16 + 15) / 16 * 16 ≤ s.params.lmemSize ∧
    s.arg3.toNat + 16 ≤ s.params.lmemSize ∧ s.arg1.toNat % 16 = 0 ∧ s.ecdh.ssValid = true ∧
    s.ecdh.ss.length = 32 := by decide +kernel

/-- Each clause of AesChecksInOrder: source, destination, key, length, no session. -/
theorem witness_AesChecksInOrder :
    got .aesenc (args 0x3FF1 16 0 0) results = some (.errAddr, 0, 0) ∧
    got .aesencS (args 0 17 0x3FF0 0) results = some (.errAddr, 0, 0) ∧
    got .aesdec (args 0 16 0 0x3FF1) results = some (.errAddr, 0, 0) ∧
    got .aesdec (args 0 17 0 0x3FF0) results = some (.errCryptoLen, 0, 0) ∧
    got .aesdecS (args 0 17 0x3FF0 0) results = some (.errAddr, 0, 0) ∧
    got .aesdecS (args 0 17 0 0) results = some (.errCryptoNoSession, 0, 0) ∧
    got .aesdecS { args 0 17 0 0 with ecdh := agreed } results = some (.errCryptoLen, 0, 0) := by decide +kernel

theorem witness_EcdhgenMakesAKeyPair :
    (args 0x3FC0 0 0 0).arg0.toNat + 64 ≤ State.reset.params.lmemSize ∧
    State.reset.params.lmemSize < (args 0x3FC1 0 0 0).arg0.toNat + 64 ∧
    (withDraws (args 0x3FC0 0 0 0) [2]).env.draws = 2 :: [] ∧ 1 ≤ (2 : Num256).toNat ∧
    (2 : Num256).toNat ≤ p256N - 1 := by decide +kernel

/-- Each clause of EcdhderiveSharesTheSecret: empty session, secret held, range one byte too long, a bad key, a
valid key. -/
theorem witness_EcdhderiveSharesTheSecret :
    got .ecdhderive (args 0x500 64 0x600 0) results = some (.errState, 0, 0) ∧
    got .ecdhderive { args 0x500 64 0x600 0 with ecdh := agreed } results = some (.errState, 0, 0) ∧
    got .ecdhderive { args 0x500 64 0x3FE1 0 with ecdh := keyed1 } results = some (.errAddr, 0, 0) ∧
    validPeer (((args 0x500 0 0x3FE0 0)).memRead 0x500 0) = false ∧
    validPeer ((((args 0x500 64 0x3FE0 0)).memWrite 0x500 key2).memRead 0x500 64) = true := by decide +kernel

/-- Each clause of XferstartSendsTheHeader, with the chunk size at both ends and beyond. -/
theorem witness_XferstartSendsTheHeader :
    got .xferstart { args 3 0 0 0 with xfer := { Xfer.reset with chunk := 1 } } results = some (.ok, 3, 0) ∧
    got .xferstart { args 0xFFFFFFFF 0 0 0 with xfer := { Xfer.reset with chunk := 65535 } } results =
      some (.ok, 65537, 0) ∧
    got .xferstart { args 3 0 0 0 with xfer := { Xfer.reset with chunk := 0 } } results = some (.errArg, 0, 0) ∧
    got .xferstart (p4 .waitTrailerReply 5 1) results = some (.errState, 0, 0) := by decide +kernel

/-- For XferabortCancelsOrClears, TimeoutFailsAndRestingStatesDrop, WrongReplyFailsTheTransfer and
OkReplyAtTheEndSendsTheTrailer: each kind of state, and a reply that is not quite "OK". -/
theorem witness_transfer_states :
    (p4 .waitHdrAck 0 0).xfer.state = .waitHdrAck ∧ (p4 .waitTrailerReply 5 1).xfer.state = .waitTrailerReply ∧
    (p4 .done 5 1).xfer.state = .done ∧ ([0x4F, 0x4B, 0x0A] : Bytes).length ≤ 66 ∧
    ([0x4F, 0x4B, 0x0A] : Bytes) ≠ [0x4F, 0x4B] ∧ ([0x4F] : Bytes).take 2 ≠ [0x4F, 0x4B] ∧
    (p4 .waitChunkAck 5 1).xfer.off = (p4 .waitChunkAck 5 1).xfer.size := by decide +kernel

theorem witness_OkReplySendsTheNextChunk :
    let s := p4 .waitChunkAck 4 2
    s.xfer.state = .waitChunkAck ∧ 1 ≤ s.xfer.chunk.toNat ∧ s.xfer.chunk.toNat ≤ 65535 ∧
    s.xfer.off.toNat < s.xfer.size.toNat ∧ s.xfer.size.toNat ≤ s.env.file.length := by decide +kernel

/-- The digits of P4 stand for its digest; no digits at all do not. A digit of each range. -/
theorem witness_TrailerReplyIsCheckedAgainstTheDigest :
    hexVal 0x39 = some 9 ∧ hexVal 0x46 = some 15 ∧ hexVal 0x61 = some 10 ∧ hexVal 0x47 = none ∧
    (p4Hex.length = 64 ∧ ∀ k, k < 32 → ∃ x y, hexVal (p4Hex.getD (2 * k) 0) = some x ∧
      hexVal (p4Hex.getD (2 * k + 1) 0) = some y ∧
      (p4 .waitTrailerReply 5 1).digest.getD k 0 = BitVec.ofNat 8 (16 * x + y)) ∧
    ([] : Bytes).length ≠ 64 ∧ (p4 .waitTrailerReply 5 1).xfer.state = .waitTrailerReply := by
  refine ⟨rfl, rfl, rfl, rfl, ⟨rfl, fun k hk => ?_⟩, by decide, rfl⟩
  have h : ∀ j : Fin 32, ∃ x y : Fin 16, hexVal (p4Hex.getD (2 * j.1) 0) = some x.1 ∧
      hexVal (p4Hex.getD (2 * j.1 + 1) 0) = some y.1 ∧
      (p4 .waitTrailerReply 5 1).digest.getD j.1 0 = BitVec.ofNat 8 (16 * x.1 + y.1) := by decide +kernel
  obtain ⟨x, y, h⟩ := h ⟨k, hk⟩
  exact ⟨x, y, h⟩

theorem witness_WholeTransferSendsTheFile :
    let s : State := { p4 .idle 0 0 with arg0 := 5 }
    s.xfer.state = .idle ∧ 1 ≤ s.xfer.chunk.toNat ∧ s.xfer.chunk.toNat ≤ 65535 ∧
    s.env.file.length = s.arg0.toNat ∧ hexDecode32 p4Hex = some s.digest := by decide +kernel

/-- For DatagramWithoutHandshake, and the forms here and below: both modes, lengths at the bound, whole blocks and
not. -/
theorem witness_DatagramWithoutHandshake :
    Instr.cipherDatagram 7 (zeros 15) ∈ [Instr.dgIn 7 (zeros 15), .cipherDatagram 7 (zeros 15)] ∧
    (zeros 1024).length ≤ 1024 ∧ State.reset.sch.mode = .off ∧ pskState.sch.mode = .psk ∧
    (zeros 1024).length % 16 = 0 ∧ (zeros 15).length % 16 ≠ 0 := by decide +kernel

theorem witness_HelloOpensASession :
    (schState [session9]).sch.mode = .ecdh ∧ findSession (schState [session9]).sch.sess 1 = none ∧
    validPeer (toBE256 (0x7cf27b188d034f7e8a52380304b51ac3c08969e277f21b35a60b48fc47669978 : Num256).toNat ++
      toBE256 (0x07775510db8ed040293d9ac69f7430dbba7dade63ce982299e04b79d227873d1 : Num256).toNat) = true ∧
    (schState [session9]).sch.sess.length < (schState [session9]).params.nsess := by decide +kernel

/-- Each clause of RefusedDatagramsChangeOnlyLastcode: a bad key, a full table, no hello. -/
theorem witness_RefusedDatagramsChangeOnlyLastcode :
    let full := schState [{ cid := 1, key := zeros 16 }, session9]
    validPeer ((cskBytes ++ zeros 64).drop 4) = false ∧ (cskBytes ++ key2).take 4 = [0x63, 0x73, 0x6B, 0x3A] ∧
    validPeer ((cskBytes ++ key2).drop 4) = true ∧ full.params.nsess ≤ full.sch.sess.length ∧
    findSession full.sch.sess 3 = none ∧ ([0x63, 0x73, 0x6B] : Bytes).take 4 ≠ [0x63, 0x73, 0x6B, 0x3A] := by
  decide +kernel

/-- For PayloadSpendsTheSession, SessionsAreSingleUseAndSeparate and DatagramEventsWriteOnlyTheChannel. -/
theorem witness_sessions :
    findSession (schState [session9]).sch.sess 9 = some session9.key ∧ (zeros 16).length % 16 = 0 ∧
    (cskBytes ++ zeros 64).length % 16 ≠ 0 ∧
    (∃ t, exec (.dgIn 9 []) (schState [session9]) = .next t ∧ t.env.out = [.payload 9 []]) ∧
    (∃ t, exec (.cipherDatagram 9 (zeros 15)) (schState [session9]) = .next t ∧ t.sch.sess = []) :=
  ⟨by decide +kernel, by decide +kernel, by decide +kernel, next_of_got (by decide +kernel),
    next_of_got (by decide +kernel)⟩

/-- For RecordsGoOutInOrder: chunks of 1 and of 65535 bytes, none, a full payload, a read to the end. -/
theorem witness_RecordsGoOutInOrder :
    ([0x41] : Bytes).length = 1 ∧ (List.replicate 65535 (0 : Byte)).length = 65535 ∧ ([] : Bytes).length = 0 ∧
    (zeros 1024).length ≤ 1024 ∧ (4 : Word).toNat + (1 : Word).toNat ≤ (p4 .waitChunkAck 4 2).xfer.size.toNat ∧
    (p4 .waitChunkAck 4 2).xfer.size.toNat ≤ (p4 .waitChunkAck 4 2).env.file.length :=
  ⟨rfl, List.length_replicate, rfl, by decide +kernel, by decide +kernel, by decide +kernel⟩

/-- For RegisterWriteThenRead: pending accesses at the last offset, and `XFER_CHUNK` outside a transfer. -/
theorem witness_RegisterWriteThenRead :
    (pending State.reset [.write32 0x64 7, .read32 0x64]).env.inputs = [.write32 0x64 7, .read32 0x64] ∧
    (0x64 : Word).toNat = 0x64 ∧
    (pending State.reset [.write32 0x30 7, .read32 0x30]).env.inputs = [.write32 0x30 7, .read32 0x30] ∧
    (0x30 : Word).toNat = 0x30 ∧ State.reset.xfer.state.waiting = false := by decide +kernel

/-- For ReadOnlyAndReservedOffsets: a pending write and a pending read at the first and last reserved offset, and
for each status register fields that are not all 0. -/
theorem witness_ReadOnlyAndReservedOffsets :
    (0x80 : Word).toNat = 0x80 ∧ (0xFFFC : Word).toNat < 0x10000 ∧ (0xFFFC : Word).toNat % 4 = 0 ∧
    (pending State.reset [.write32 0xFFFC 7]).env.inputs = [.write32 0xFFFC 7] ∧
    (pending (p4 .done 5 1) [.read32 0x38]).env.inputs = [.read32 0x38] ∧
    (XferState.done, 4) ∈ xferStateNumbers ∧ (XferErr.none, 0) ∈ xferErrNumbers ∧
    (p4 .done 5 1).xfer.state = .done ∧ (p4 .done 5 1).xfer.err = .none ∧
    (Code.errCryptoFull, 0x13) ∈ codeNumbers ∧ (SchMode.ecdh, 2) ∈ schModeNumbers ∧
    ((schState [session9]).setLast .errCryptoFull).sch.last = .errCryptoFull := by decide +kernel

/-- For ControlRegisterWrites: each write pending, the modes 3 and 6 (2 in its two bits), a transfer in flight, the
first and last key and digest register. -/
theorem witness_ControlRegisterWrites :
    (3 : Word).toNat % 4 = 3 ∧ (6 : Word).toNat % 4 = 2 ∧ (SchMode.ecdh, 2) ∈ schModeNumbers ∧
    (pending State.reset [.write32 0x68 6]).env.inputs = [.write32 0x68 6] ∧
    (pending (p4 .waitHdrAck 0 0) [.write32 0x30 6]).env.inputs = [.write32 0x30 6] ∧
    (p4 .waitHdrAck 0 0).xfer.state.waiting = true ∧
    (pending State.reset [.write32 0x70 6]).env.inputs = [.write32 (State.reset.params.base + (0x70 + 4 * 0)) 6] ∧
    (pending State.reset [.write32 0x7C 6]).env.inputs = [.write32 (State.reset.params.base + (0x70 + 4 * 3)) 6] ∧
    (pending State.reset [.write32 0x48 6]).env.inputs = [.write32 (State.reset.params.base + (0x48 + 4 * 0)) 6] ∧
    (pending State.reset [.write32 0x64 6]).env.inputs = [.write32 (State.reset.params.base + (0x48 + 4 * 7)) 6] := by
  decide +kernel

/-- For LmemByteWriteThenRead: the last byte of LMEM and the first beyond it, where the decoded region ends with LMEM
and where it does not. -/
theorem witness_LmemByteWriteThenRead :
    State.reset.params.legal = true ∧ wideRegion.params.legal = true ∧
    16383 < wideRegion.params.lmemSize ∧ wideRegion.params.lmemSize ≤ 16384 ∧
    16383 < State.reset.params.lmemSize ∧ State.reset.params.lmemSize ≤ 16384 ∧
    (pending wideRegion [.read8 (0x2000 + (0x10000 + 16384))]).env.inputs =
      [.read8 (wideRegion.params.base + (0x10000 + 16384))] := by decide +kernel

theorem witness_SecretsHaveNoReadPath : (schState [session9]).sch.sess.length ≤ [zeros 16].length := by decide

end Sys2Proof.Tests
end

section
/-! PROOFS. What the interface and the commands promise in general: every command ends with one of its codes
(60_exceptions.md R352), the step runs what is decoded (30_encoding.md R91), it completes exactly on what the
interface allows (10_state.md R44, 20_memory.md R67), and the output records go out in order (00_scope.md R13). -/

namespace Sys2Proof.Machine

/-! ## Every command ends with one of its codes (60_exceptions.md R352) -/

/-- An outcome is a next state whose completion code is one of `codes`. -/
def Result.EndsIn (r : Result) (codes : List Code) : Prop := ∃ t, r = .next t ∧ t.code ∈ codes

theorem Result.EndsIn.of_code {t : State} {codes : List Code} (h : t.code ∈ codes) :
    Result.EndsIn (.next t) codes := ⟨t, rfl, h⟩

/-- A command behind its checks ends in the codes of the checks and those of its success case. -/
theorem State.checked_endsIn {s : State} {checks : List Check} {success : Result} {codes : List Code}
    (hchecks : checks.map (·.2) ⊆ codes) (hsuccess : Result.EndsIn success codes) :
    Result.EndsIn (s.checked checks success) codes := by
  obtain ⟨c, hc, heq⟩ | ⟨-, heq⟩ := s.checked_cases checks success
  · rw [heq]; exact .of_code (hchecks (firstFailure_mem hc))
  · rw [heq]; exact hsuccess

/-- Every row of R352 lists `OK`. -/
theorem ok_mem_codesOf (i : Instr) : Code.ok ∈ codesOf i := by
  unfold codesOf; split <;> exact List.mem_cons_self

/-- Ending with `OK` is allowed to every command (60_exceptions.md R352). -/
theorem Result.EndsIn.of_ok {t : State} {i : Instr} (h : t.code = .ok) :
    Result.EndsIn (.next t) (codesOf i) := .of_code (h ▸ ok_mem_codesOf i)

@[simp] theorem State.decryptWith_code (s : State) (k : Bytes) : (s.decryptWith k).code = .ok := rfl
@[simp] theorem State.deriveWith_code (s : State) (b : Bytes) : (s.deriveWith b).code = .ok := rfl

/-- R352 for each command: the codes of its checks in order, then those of what stands behind them. -/
theorem exec_command_endsIn {i : Instr} (hi : i.isCommand = true) (s : State) :
    Result.EndsIn (exec i s) (codesOf i) := by
  cases i with
  | nop | ecdhdiscard | xferabort | schreset | sreset => exact .of_ok rfl
  | crc32 => exact s.checked_endsIn (by simp [State.crc32Checks, codesOf]) (.of_ok rfl)
  | bfpack =>
    exact s.checked_endsIn (by simp [State.bfpackChecks, State.descriptorChecks, codesOf]) (.of_ok rfl)
  | bfunpack =>
    exact s.checked_endsIn (by simp [State.bfunpackChecks, State.descriptorChecks, codesOf]) (.of_ok rfl)
  | bfclear => exact s.checked_endsIn (by simp [State.bfclearChecks, codesOf]) (.of_ok rfl)
  | aesenc =>
    exact s.checked_endsIn (by simp [State.aesRangeChecks, State.keyInRange, codesOf]) (.of_ok rfl)
  | aesencS =>
    exact s.checked_endsIn (by simp [State.aesRangeChecks, State.secretHeld, codesOf]) (.of_ok rfl)
  | aesdec =>
    exact s.checked_endsIn (by simp [State.aesRangeChecks, State.keyInRange, codesOf]) (.of_ok rfl)
  | aesdecS =>
    refine s.checked_endsIn (by simp [State.aesRangeChecks, State.secretHeld, codesOf]) (.of_code ?_)
    by_cases hwhole : s.wholeBlocks <;> simp [hwhole, codesOf]
  | ecdhgen => exact s.checked_endsIn (by simp [State.ecdhgenChecks, codesOf]) (.of_ok rfl)
  | ecdhderive =>
    refine s.checked_endsIn (by simp [State.ecdhderiveChecks, codesOf]) (.of_code ?_)
    by_cases hpeer : validPeer s.sourceBytes <;> simp [hpeer, codesOf]
  | xferstart => exact s.checked_endsIn (by simp [State.xferstartChecks, codesOf]) (.of_ok rfl)
  | _ => cases hi

/-! ## Inputs that decode give a next state (10_state.md R44, 30_encoding.md R91) -/

/-- The opcode map holds commands only (30_encoding.md R92). -/
theorem opcodeMap_isCommand {n : Nat} {plain : Instr} {keyed : Option Instr}
    (h : opcodeMap n = some (plain, keyed)) :
    plain.isCommand = true ∧ ∀ i ∈ keyed, i.isCommand = true := by
  unfold opcodeMap at h
  split at h <;> cases h <;> simp [Instr.isCommand]

/-- A command word decodes to a command (30_encoding.md R91). -/
theorem isCommand_of_decodeCommand {w : Word} {i : Instr} (h : decodeCommand w = .ok i) :
    i.isCommand = true := by
  unfold decodeCommand at h
  split at h
  · cases h
  · split at h
    · cases h
    · next plain keyed hmap =>
      obtain ⟨hplain, hkeyed⟩ := opcodeMap_isCommand hmap
      split at h
      · split at h
        · cases h; exact hkeyed _ rfl
        · cases h
      · cases h; exact hplain

/-- A word written to `CMD` gives a next state, legal or not (10_state.md R22). -/
theorem runCommand_completes (w : Word) (s : State) : ∃ t, runCommand w s = .next t := by
  unfold runCommand
  split
  · next i hdec =>
    obtain ⟨t, ht, -⟩ := exec_command_endsIn (isCommand_of_decodeCommand hdec) s
    exact ⟨t, ht⟩
  · exact ⟨_, rfl⟩

/-- A port event within the bounds of its form gives a next state (10_state.md R44). -/
theorem exec_event_completes {i : Instr} (hev : i.isEvent = true) (hwf : WellFormed i = true) (s : State) :
    ∃ t, exec i s = .next t := by
  cases i with
  | rxReply r => exact ⟨_, if_pos (of_decide_eq_true hwf)⟩
  | trailerReply h => exact ⟨_, if_pos (of_decide_eq_true hwf)⟩
  | dgIn cid d => exact ⟨_, if_pos (of_decide_eq_true hwf)⟩
  | cipherDatagram cid d =>
    simp only [WellFormed, Bool.and_eq_true, decide_eq_true_eq] at hwf
    exact ⟨_, if_pos hwf.2⟩
  | rxTimeout | okReply | helloDatagram => exact ⟨_, rfl⟩
  | _ => cases hev

/-- The form of a reply is an event, within its bounds where the reply is (30_encoding.md R106, R107). -/
theorem replyForm_event {r : Bytes} (h : r.length ≤ Config.rxMax) :
    (replyForm r).isEvent = true ∧ WellFormed (replyForm r) = true := by
  unfold replyForm
  split
  · exact ⟨rfl, rfl⟩
  · split
    · exact ⟨rfl, by simpa [WellFormed] using Nat.sub_le_sub_right h 2⟩
    · exact ⟨rfl, decide_eq_true h⟩

/-- The form of a datagram is an event, within its bounds where the datagram is (30_encoding.md R98, R100). -/
theorem datagramForm_event (cid : Cid) {d : Bytes} (h : d.length ≤ Config.dgMax) :
    (datagramForm cid d).isEvent = true ∧ WellFormed (datagramForm cid d) = true := by
  unfold datagramForm
  split
  · exact ⟨rfl, rfl⟩
  · split
    · next hblocks => exact ⟨rfl, by simpa [WellFormed, h] using hblocks⟩
    · exact ⟨rfl, decide_eq_true h⟩

/-- A reply is taken exactly when it is within the bound of the RX port (10_state.md R44). -/
theorem runRecord_reply_completes_iff (r : Bytes) (s : State) :
    (∃ t, runRecord (decode (.rx r)) s = .next t) ↔ r.length ≤ 66 := by
  simp only [decode, decodeReply]
  split
  · next h =>
    obtain ⟨hev, hwf⟩ := replyForm_event h
    exact iff_of_true (exec_event_completes hev hwf s) h
  · next h => exact iff_of_false (by rintro ⟨t, ht⟩; cases ht) h

/-- A datagram is taken exactly when it is within the bound of the DG port (10_state.md R44). -/
theorem runRecord_datagram_completes_iff (cid : Cid) (d : Bytes) (s : State) :
    (∃ t, runRecord (decode (.dgIn cid d)) s = .next t) ↔ d.length ≤ 1024 := by
  simp only [decode, decodeDatagram]
  split
  · next h =>
    obtain ⟨hev, hwf⟩ := datagramForm_event cid h
    exact iff_of_true (exec_event_completes hev hwf s) h
  · next h => exact iff_of_false (by rintro ⟨t, ht⟩; cases ht) h

/-! ## What is delivered exactly when the interface allows it -/

/-- An outcome behind one condition is a next state exactly when the condition holds. -/
theorem guarded_completes_iff {c : Prop} [Decidable c] {r : Result} (hr : ∃ t, r = .next t) (e : Refusal) :
    (∃ t, (if c then r else .refused e) = .next t) ↔ c := by
  split
  · next hc => exact iff_of_true hr hc
  · next hc => exact iff_of_false (by rintro ⟨t, ht⟩; cases ht) hc

/-- A host word write is taken exactly when it is an aligned register access (20_memory.md R67). -/
theorem deliverWrite32_completes_iff (a : Nat) (v : Word) (s : State) :
    (∃ t, deliverWrite32 a v s = .next t) ↔ s.wordAccess a = true := by
  refine guarded_completes_iff ?_ _
  split
  · exact runCommand_completes v s
  · exact ⟨_, rfl⟩

/-- The register space by the bounds of bus addresses (10_state.md R24). -/
theorem State.wordAccess_iff_bounds (s : State) (a : Nat) : s.wordAccess a = true ↔
    s.params.base ≤ a ∧ a < s.params.base + 0x10000 ∧ (a - s.params.base) % 4 = 0 := by
  rw [State.wordAccess_eq_true, State.busOffset]
  omega

/-- One presented operation gives a next state exactly when the interface allows it. -/
theorem deliver_completes_iff (x : Input) (s : State) :
    (∃ t, deliver x s = .next t) ↔ Input.allowed s x = true := by
  cases x with
  | write32 a v =>
    rw [deliver, deliverWrite32_completes_iff, State.wordAccess_iff_bounds]
    simp [Input.allowed, and_assoc]
  | read32 a =>
    rw [deliver, deliverRead32, guarded_completes_iff ⟨_, rfl⟩, State.wordAccess_iff_bounds]
    simp [Input.allowed, and_assoc]
  | write16 | read16 => exact iff_of_false (by rintro ⟨t, ht⟩; cases ht) Bool.false_ne_true
  | write8 a b =>
    rw [deliver, deliverWrite8, guarded_completes_iff ⟨_, rfl⟩, State.byteAccess_eq_true]
    simp [Input.allowed, and_assoc]
  | read8 a =>
    rw [deliver, deliverRead8, guarded_completes_iff ⟨_, rfl⟩, State.byteAccess_eq_true]
    simp [Input.allowed, and_assoc]
  | rx r => rw [deliver, runRecord_reply_completes_iff]; simp [Input.allowed]
  | dg cid d => rw [deliver, runRecord_datagram_completes_iff]; simp [Input.allowed]
  | rxTimeout | hwReset => exact iff_of_true ⟨_, rfl⟩ rfl
  | draw d =>
    rw [deliver, deliverDraw, guarded_completes_iff ⟨_, rfl⟩, legalScalar_iff]
    simp [Input.allowed]
  | file content =>
    cases hw : s.xfer.state.waiting <;> simp [deliver, deliverFile, Input.allowed, hw]

/-- What the interface allows depends on the state of the block, not on what else is pending. -/
theorem Input.allowed_popInput (x : Input) (s : State) : Input.allowed s.popInput x = Input.allowed s x := by
  cases x <;> rfl

/-! ## The step on what is pending -/

theorem step_of_idle {s : State} (h : s.env.inputs = []) : step s = .next s := by
  simp only [step, h]

theorem step_of_pending {s : State} {x : Input} {rest : List Input} (h : s.env.inputs = x :: rest) :
    step s = deliver x s.popInput := by
  simp only [step, h]

theorem State.popInput_of_pending {s : State} {x : Input} {rest : List Input}
    (h : s.env.inputs = x :: rest) : s.popInput = { s with env := { s.env with inputs := rest } } := by
  rw [State.popInput, h, List.tail_cons]

/-- What presents a wire form that decodes is delivered as the instruction (30_encoding.md R91, R97 to R107). -/
theorem deliver_of_decode {s : State} {w : Wire} {x : Input} {i : Instr}
    (hin : inputOf s.params w = some x) (hdec : decode w = .ok i) : deliver x s = exec i s := by
  cases w with
  | command c =>
    cases hin
    have haccess : s.wordAccess s.params.base = true := by simp
    have hrun : runCommand c s = exec i s := by
      rw [runCommand, show decodeCommand c = .ok i from hdec]
    rw [deliver, deliverWrite32, if_pos haccess, if_pos s.busOffset_base, hrun]
  | rx | rxTimeout | dgIn => cases hin; rw [deliver, hdec, runRecord]
  | tx | txClose | dgOut | fileRead | payload => cases hin

/-! ## Output records (30_encoding.md R99 to R105) -/

/-- The length field of a data frame by division (00_scope.md R12). -/
theorem toLE16_ofNat (n : Nat) :
    toLE16 (BitVec.ofNat 16 n) = [BitVec.ofNat 8 n, BitVec.ofNat 8 (n / 256)] := by
  have hlow : (BitVec.ofNat 16 n).extractLsb' 0 8 = BitVec.ofNat 8 n :=
    BitVec.eq_of_toNat_eq (by simp)
  have hhigh : (BitVec.ofNat 16 n).extractLsb' 8 8 = BitVec.ofNat 8 (n / 256) :=
    BitVec.eq_of_toNat_eq (by simp [Nat.shiftRight_eq_div_pow]; omega)
  rw [toLE16, hlow, hhigh]

/-- The bytes of a data frame, its length field written out (30_encoding.md R102). -/
theorem dataFrameBytes_eq (k : Bytes) :
    dataFrameBytes k = [0xF1, 0x00, BitVec.ofNat 8 k.length, BitVec.ofNat 8 (k.length / 256)] ++ k := by
  rw [dataFrameBytes, toLE16_ofNat]; rfl

theorem exec_dataFrame_of_fits {k : Bytes} (s : State) (hne : 1 ≤ k.length) (hmax : k.length ≤ 65535) :
    exec (.dataFrame k) s = .next (s.emit (.tx (dataFrameBytes k))) := if_pos ⟨hne, hmax⟩

theorem exec_dataFrame_of_not_fits {k : Bytes} (s : State) (h : k.length = 0 ∨ 65535 < k.length) :
    exec (.dataFrame k) s = .refused .outputBounds :=
  if_neg (show ¬ (1 ≤ k.length ∧ k.length ≤ 65535) by omega)

theorem exec_payload_of_fits {d : Bytes} (cid : Cid) (s : State) (h : d.length ≤ 1024) :
    exec (.payload cid d) s = .next (s.emit (.payload cid d)) := if_pos h

theorem exec_fileRead_of_fits {o n : Word} (s : State) (hne : 1 ≤ n.toNat) (hmax : n.toNat ≤ 65535)
    (hend : o.toNat + n.toNat ≤ s.xfer.size.toNat) :
    exec (.fileRead o n) s = .next (s.afterFileRead o.toNat n.toNat) := if_pos ⟨hne, hmax, hend⟩

/-! ## The statements -/

/-- Settles O13: `exec_command_endsIn` goes through the sixteen commands. -/
theorem commandsEndWithTheirCodes : Obligations.CommandsEndWithTheirCodes :=
  fun _ s hi => exec_command_endsIn hi s

/-- Settles O8: idle steps complete; any other completes as the delivery of the oldest pending operation does. -/
theorem stepCompletesExactlyOnAllowedInputs : Obligations.StepCompletesExactlyOnAllowedInputs := by
  intro s
  obtain ⟨hidle, hstep⟩ | ⟨x, rest, hpending, hstep⟩ := step_cases s
  · exact iff_of_true ⟨s, hstep⟩ (by simp [hidle])
  · rw [hstep, deliver_completes_iff, Input.allowed_popInput, hpending]
    simp

/-- Settles O6: the oldest pending operation is taken off and delivered as the instruction it presents. -/
theorem stepRunsTheDecodedInstruction : Obligations.StepRunsTheDecodedInstruction := by
  refine ⟨fun s w x rest i hpending hin hdec => ?_, fun s hidle => step_of_idle hidle⟩
  rw [step_of_pending hpending, ← State.popInput_of_pending hpending]
  exact deliver_of_decode (s := s.popInput) hin hdec

/-- Settles O55: each row is `emit` of its record; the data frame needs its length field written out, the file
read that the bytes lie inside the presented file. -/
theorem recordsGoOutInOrder : Obligations.RecordsGoOutInOrder := by
  intro s size k c x y p o n put
  refine ⟨rfl, fun hne hmax => ?_, exec_dataFrame_of_not_fits s, rfl, rfl, rfl, rfl,
    exec_payload_of_fits c s, fun hne hmax hend hfile => ?_⟩
  · rw [exec_dataFrame_of_fits s hne hmax, dataFrameBytes_eq]; rfl
  · refine ⟨_, exec_fileRead_of_fits s hne hmax hend, ?_, rfl⟩
    rw [State.afterFileRead_env_out, s.fileBytes_inside _ _ (hend.trans hfile)]

end Sys2Proof.Machine
end

section
/-! PROOFS. The rules the statements about every instruction are proved with: what an outcome ensures, which
updates keep the invariants (10_state.md R49, 45_frame_transfer.md R285), and the bounds of what is written. -/

namespace Sys2Proof.Machine

/-! ## What an outcome ensures -/

/-- If the outcome is a next state, that state has the property. -/
def Result.Ensures (r : Result) (P : State → Prop) : Prop := ∀ t, r = .next t → P t

theorem Result.Ensures.next {P : State → Prop} {t : State} (h : P t) : Result.Ensures (.next t) P := by
  rintro _ ⟨⟩; exact h

theorem Result.Ensures.refused {P : State → Prop} (e : Refusal) : Result.Ensures (.refused e) P := by
  rintro _ ⟨⟩

/-- An operation behind a condition of the interface has only its success case to show. -/
theorem Result.Ensures.guarded {P : State → Prop} {c : Prop} [Decidable c] {r : Result} {e : Refusal}
    (h : c → r.Ensures P) : Result.Ensures (if c then r else .refused e) P := by
  split
  · next hc => exact h hc
  · exact .refused e

/-- A command behind its checks: the error completions, and the success case with all checks passed. -/
theorem State.checked_ensures {s : State} {checks : List Check} {success : Result} {P : State → Prop}
    (herr : ∀ c, P (s.errorCompletion c)) (hok : (∀ x ∈ checks, x.1 = true) → success.Ensures P) :
    (s.checked checks success).Ensures P := by
  obtain ⟨c, -, heq⟩ | ⟨hpass, heq⟩ := s.checked_cases checks success
  · rw [heq]; exact .next (herr c)
  · rw [heq]; exact hok hpass

/-! ## Lengths of what the ciphers give (42_aes_cbc.md R171, R180 to R183) -/

theorem length_aesEncBlock_le (k block : Bytes) : (aesEncBlock k block).length ≤ 16 := by
  simp [aesEncBlock, encBlockWith, shiftRows]

theorem length_cbcEncBlocks_le (k : Bytes) (m : Nat) (prev p : Bytes) :
    (cbcEncBlocks k m prev p).length ≤ 16 * m := by
  induction m generalizing prev p with
  | zero => rfl
  | succ m ih =>
    rw [cbcEncBlocks, List.length_append]
    have hblock := length_aesEncBlock_le k (xorBytes (p.take 16) prev)
    have hrest := ih (aesEncBlock k (xorBytes (p.take 16) prev)) (p.drop 16)
    omega

theorem length_zeroPad (p : Bytes) : (zeroPad p).length = paddedLength p.length := by
  rw [zeroPad, List.length_append, length_zeros, paddedLength]
  omega

theorem length_cbcEnc_le (k p : Bytes) : (cbcEnc k p).length ≤ paddedLength p.length := by
  have h := length_cbcEncBlocks_le k ((zeroPad p).length / 16) cbcIv (zeroPad p)
  rw [cbcEnc, ← length_zeroPad]
  omega

theorem length_cbcDecBlocks_le (k : Bytes) (m : Nat) {prev : Bytes} (c : Bytes) (hprev : prev.length ≤ 16) :
    (cbcDecBlocks k m prev c).length ≤ 16 * m := by
  induction m generalizing prev c with
  | zero => rfl
  | succ m ih =>
    rw [cbcDecBlocks, List.length_append, length_xorBytes]
    have hrest := ih (c.drop 16) (List.length_take_le 16 c)
    omega

theorem length_cbcDec_le (k c : Bytes) : (cbcDec k c).length ≤ c.length := by
  have hraw := length_cbcDecBlocks_le k (c.length / 16) (prev := cbcIv) c (by simp [cbcIv])
  calc (cbcDec k c).length
    _ ≤ (cbcDecRaw k c).length := (List.takeWhile_sublist _).length_le
    _ ≤ 16 * (c.length / 16) := hraw
    _ ≤ c.length := Nat.mul_div_le _ _

theorem State.length_sourceBytes (s : State) : s.sourceBytes.length = s.arg1.toNat := s.length_memRead _ _

/-! ## The session table (44_secure_channel.md R231, R232) -/

/-- Rising client ids, of any two entries. -/
theorem sessSorted_iff_pairwise (l : List Session) :
    sessSorted l = true ↔ l.Pairwise (fun x y => x.cid < y.cid) := by
  match l with
  | [] | [x] => simp [sessSorted]
  | x :: y :: rest =>
    simp only [sessSorted, Bool.and_eq_true, decide_eq_true_eq, sessSorted_iff_pairwise (y :: rest)]
    rw [List.pairwise_cons (a := x)]
    refine and_congr_left fun hrest => ⟨fun hxy z hz => ?_, fun h => h y List.mem_cons_self⟩
    obtain rfl | hz := List.mem_cons.1 hz
    · exact hxy
    · exact BitVec.lt_trans hxy ((List.pairwise_cons.1 hrest).1 z hz)

theorem mem_insertSession {l : List Session} {e x : Session} : x ∈ insertSession l e ↔ x = e ∨ x ∈ l := by
  induction l with
  | nil => simp [insertSession]
  | cons y l ih =>
    rw [insertSession]
    split
    · exact List.mem_cons
    · rw [List.mem_cons, ih, List.mem_cons, or_left_comm]

/-- An entry for a client that has none goes to its place. -/
theorem sessSorted_insertSession {l : List Session} {e : Session} (hl : sessSorted l = true)
    (hnew : findSession l e.cid = none) : sessSorted (insertSession l e) = true := by
  rw [sessSorted_iff_pairwise] at hl ⊢
  induction l with
  | nil => exact List.pairwise_singleton _ _
  | cons x l ih =>
    obtain ⟨hx, hrest⟩ := List.pairwise_cons.1 hl
    rw [findSession_cons] at hnew
    split at hnew
    · cases hnew
    · next hne =>
      rw [insertSession]
      split
      · next hlt =>
        refine List.pairwise_cons.2 ⟨fun y hy => ?_, hl⟩
        obtain rfl | hy := List.mem_cons.1 hy
        · exact hlt
        · exact BitVec.lt_trans hlt (hx y hy)
      · next hge =>
        refine List.pairwise_cons.2 ⟨fun y hy => ?_, ih hrest hnew⟩
        obtain rfl | hy := mem_insertSession.1 hy
        · exact Nat.lt_of_le_of_ne (BitVec.not_lt.1 hge) (mt BitVec.eq_of_toNat_eq hne)
        · exact hx y hy

theorem sessSorted_filter {l : List Session} (hl : sessSorted l = true) (p : Session → Bool) :
    sessSorted (l.filter p) = true := by
  rw [sessSorted_iff_pairwise] at hl ⊢
  exact hl.filter p

theorem Sch.Inv.noSessions (c : Sch) (n : Nat) (h : c.sess = []) : c.Inv n := by
  simp [Sch.Inv, h, sessSorted]

/-! ## The invariants of the units -/

theorem EcdhSession.inv_empty : EcdhSession.empty.Inv := by
  simp [EcdhSession.Inv, EcdhSession.empty, zeros]

/-- A drawn key pair (43_ecdh_p256.md R212). -/
theorem EcdhSession.inv_keyPair {d : Nat} (hd : legalScalar d = true) :
    EcdhSession.Inv { d := BitVec.ofNat 256 d, q := pubKey d, ss := zeros 32, keyValid := true,
                      ssValid := false } := by
  have hlt : d < 2 ^ 256 := ((legalScalar_iff d).1 hd).2.trans (by decide)
  have hnat : (BitVec.ofNat 256 d).toNat = d := Nat.mod_eq_of_lt hlt
  simp [EcdhSession.Inv, hnat, hd]

/-- A shared secret is added to a key pair (43_ecdh_p256.md R213). -/
theorem EcdhSession.Inv.withSecret {e : EcdhSession} (h : e.Inv) (hkey : e.keyValid = true) {z : Bytes}
    (hz : z.length = 32) : EcdhSession.Inv { e with ss := z, ssValid := true } := by
  obtain ⟨-, -, -, -, -, hpair⟩ := h
  simp [EcdhSession.Inv, hz, hkey, hpair hkey]

theorem Xfer.inv_reset : Xfer.reset.Inv := by decide

/-- The end of a transfer by a failure (45_frame_transfer.md R266). -/
theorem Xfer.Inv.fail {x : Xfer} (h : x.Inv) {e : XferErr} (he : e ≠ .none) :
    Xfer.Inv { x with err := e, state := .failed } := by
  obtain ⟨hoff, hlast, -⟩ := h
  simp [Xfer.Inv, XferState.waiting, hoff, hlast, he]

/-- The resting state after an abort at rest (45_frame_transfer.md R281). -/
theorem Xfer.Inv.idle {x : Xfer} (h : x.Inv) : Xfer.Inv { x with err := .none, state := .idle } := by
  obtain ⟨hoff, hlast, -⟩ := h
  simp [Xfer.Inv, XferState.waiting, hoff, hlast]

/-- A new transfer (45_frame_transfer.md R270). -/
theorem Xfer.inv_begin {x : Xfer} {size : Word} (hmin : 1 ≤ x.chunk.toNat) (hmax : x.chunk.toNat ≤ 65535) :
    Xfer.Inv { x with size := size, off := 0, last := 0, err := .none, state := .waitHdrAck } := by
  simp [Xfer.Inv, hmin, hmax]

/-- The chunk size may be written at rest (10_state.md R28). -/
theorem Xfer.Inv.withChunk {x : Xfer} (h : x.Inv) (hrest : x.state.waiting = false) (v : Word) :
    Xfer.Inv { x with chunk := v } := by
  obtain ⟨hoff, hlast, herr, -, hhdr, hchunk, hend⟩ := h
  refine ⟨hoff, hlast, herr, fun hw => ?_, hhdr, fun hst => ?_, hend⟩
  · cases hrest.symm.trans hw
  · change x.state = _ at hst
    rw [hst] at hrest
    cases hrest

/-- No error is recorded in flight (45_frame_transfer.md R285). -/
theorem Xfer.Inv.err_of_waiting {x : Xfer} (h : x.Inv) (hw : x.state.waiting = true) : x.err = .none := by
  obtain ⟨-, -, herr, -⟩ := h
  by_contra hne
  rw [herr.1 hne] at hw
  cases hw

/-- The end of the file has been acknowledged (45_frame_transfer.md R276). -/
theorem Xfer.Inv.trailerSent {x : Xfer} (h : x.Inv) (hw : x.state.waiting = true)
    (hend : x.size.toNat ≤ x.off.toNat) : Xfer.Inv { x with state := .waitTrailerReply } := by
  have herr := h.err_of_waiting hw
  obtain ⟨hoff, hlast, -, hchunk, -⟩ := h
  have hsize : x.off = x.size := BitVec.eq_of_toNat_eq (hoff.antisymm hend)
  simp [Xfer.Inv, herr, hlast, hchunk hw, hsize]

/-- Protocol success (45_frame_transfer.md R274). -/
theorem Xfer.Inv.done {x : Xfer} (h : x.Inv) (hst : x.state = .waitTrailerReply) :
    Xfer.Inv { x with state := .done } := by
  have herr := h.err_of_waiting (by rw [hst]; rfl)
  obtain ⟨hoff, hlast, -, -, -, -, hend⟩ := h
  simp [Xfer.Inv, XferState.waiting, herr, hlast, hend (.inl hst)]

/-- Before a chunk goes out, `XFER_OFF` is whole chunks (45_frame_transfer.md R285). -/
theorem Xfer.Inv.off_wholeChunks {x : Xfer} (h : x.Inv)
    (hst : x.state = .waitHdrAck ∨ x.state = .waitChunkAck) (hmore : x.off.toNat < x.size.toNat) :
    x.off.toNat % x.chunk.toNat = 0 := by
  obtain ⟨-, -, -, -, hhdr, hchunk, -⟩ := h
  obtain hst | hst := hst
  · simp [hhdr hst]
  · obtain ⟨-, -, hwhole | hsize⟩ := hchunk hst
    · exact hwhole
    · rw [hsize] at hmore; exact absurd hmore (lt_irrefl _)

/-- The next chunk is not empty, fits a data frame and ends inside the file (45_frame_transfer.md R276). -/
theorem State.nextChunkLen_bounds {s : State} (h : s.xfer.Inv) (hw : s.xfer.state.waiting = true)
    (hmore : s.xfer.off.toNat < s.xfer.size.toNat) :
    1 ≤ s.nextChunkLen ∧ s.nextChunkLen ≤ 65535 ∧
      s.xfer.off.toNat + s.nextChunkLen ≤ s.xfer.size.toNat := by
  obtain ⟨-, -, -, hchunk, -⟩ := h
  obtain ⟨hmin, hmax⟩ := hchunk hw
  rw [State.nextChunkLen]
  omega

theorem XferState.waiting_of_ackAwaited {st : XferState} (h : st = .waitHdrAck ∨ st = .waitChunkAck) :
    st.waiting = true := by
  obtain rfl | rfl := h <;> rfl

/-- A chunk has gone out (45_frame_transfer.md R276): `XFER_OFF` stays whole chunks or reaches the end. -/
theorem State.xferInv_sendChunk {s : State} (h : s.xfer.Inv)
    (hst : s.xfer.state = .waitHdrAck ∨ s.xfer.state = .waitChunkAck)
    (hmore : s.xfer.off.toNat < s.xfer.size.toNat) : s.sendChunk.xfer.Inv := by
  have hw := XferState.waiting_of_ackAwaited hst
  have herr := h.err_of_waiting hw
  have hwhole := h.off_wholeChunks hst hmore
  obtain ⟨hmin, hmax, hend⟩ := s.nextChunkLen_bounds h hw hmore
  have hsize := s.xfer.size.isLt
  have hoff : s.sendChunk.xfer.off.toNat = s.xfer.off.toNat + s.nextChunkLen :=
    Nat.mod_eq_of_lt (by omega)
  have hlast : s.sendChunk.xfer.last.toNat = s.nextChunkLen := Nat.mod_eq_of_lt (by omega)
  obtain ⟨-, -, -, hchunk, -⟩ := h
  refine ⟨hoff.trans_le hend, hlast.trans_le hmax, by simp [herr], fun _ => hchunk hw, by simp, fun _ => ?_,
    by simp⟩
  refine ⟨by omega, by omega, ?_⟩
  obtain hfull | hrest : s.nextChunkLen = s.xfer.chunk.toNat ∨
      s.xfer.off.toNat + s.nextChunkLen = s.xfer.size.toNat := by rw [State.nextChunkLen]; omega
  · left; rw [hoff, hfull, State.sendChunk_xfer_chunk, Nat.add_mod_right, hwhole]
  · right; exact BitVec.eq_of_toNat_eq (hoff.trans hrest)

/-! ## The invariants of the state, unit by unit and update by update -/

section
variable {s : State}

theorem State.Inv.legal (h : s.Inv) : s.params.legal = true := by obtain ⟨hp, -⟩ := h; exact hp
theorem State.Inv.ecdhInv (h : s.Inv) : s.ecdh.Inv := by obtain ⟨-, -, -, he, -⟩ := h; exact he
theorem State.Inv.xferInv (h : s.Inv) : s.xfer.Inv := by obtain ⟨-, -, -, -, hx, -⟩ := h; exact hx
theorem State.Inv.schInv (h : s.Inv) : s.sch.Inv s.params.nsess := by
  obtain ⟨-, -, -, -, -, hc⟩ := h; exact hc

theorem State.Inv.withEcdh (h : s.Inv) {e : EcdhSession} (he : e.Inv) :
    State.Inv { s with ecdh := e } := by
  obtain ⟨hp, hwf, hin, -, hx, hc⟩ := h; exact ⟨hp, hwf, hin, he, hx, hc⟩

theorem State.Inv.withXfer (h : s.Inv) {x : Xfer} (hx : x.Inv) : State.Inv { s with xfer := x } := by
  obtain ⟨hp, hwf, hin, he, -, hc⟩ := h; exact ⟨hp, hwf, hin, he, hx, hc⟩

theorem State.Inv.withSch (h : s.Inv) {c : Sch} (hc : c.Inv s.params.nsess) :
    State.Inv { s with sch := c } := by
  obtain ⟨hp, hwf, hin, he, hx, -⟩ := h; exact ⟨hp, hwf, hin, he, hx, hc⟩

/-- The invariants do not speak of the model's own fields (log 1). -/
theorem State.Inv.withEnv (h : s.Inv) (e : Env) : State.Inv { s with env := e } := h
theorem State.Inv.emit (h : s.Inv) (o : Output) : (s.emit o).Inv := h
theorem State.Inv.afterDraw (h : s.Inv) : s.afterDraw.Inv := h
theorem State.Inv.afterFileRead (h : s.Inv) (o n : Nat) : (s.afterFileRead o n).Inv := h
theorem State.Inv.popInput (h : s.Inv) : s.popInput.Inv := h
theorem State.Inv.completeOk (h : s.Inv) (x y : Word) : (s.completeOk x y).Inv := h
theorem State.Inv.errorCompletion (h : s.Inv) (c : Code) : (s.errorCompletion c).Inv := h
theorem State.Inv.setLast (h : s.Inv) (c : Code) : (s.setLast c).Inv := h

/-- A write inside LMEM (20_memory.md R61). -/
theorem State.Inv.memWrite (h : s.Inv) {a : Nat} {bs : Bytes} (hfits : a + bs.length ≤ s.params.lmemSize) :
    (s.memWrite a bs).Inv := by
  obtain ⟨hp, hwf, hin, hunits⟩ := h
  exact ⟨hp, Memory.wf_putBytes hwf a bs, Memory.within_putBytes hin a bs hfits, hunits⟩

theorem State.Inv.discardSession (h : s.Inv) : s.discardSession.Inv := h.withEcdh EcdhSession.inv_empty

theorem State.Inv.clearSess (h : s.Inv) : s.clearSess.Inv := h.withSch (Sch.Inv.noSessions _ _ rfl)

theorem State.Inv.removeSess (h : s.Inv) (c : Cid) : (s.removeSess c).Inv := by
  refine h.withSch ?_
  obtain ⟨hsorted, hkeys, hroom, hmode⟩ := h.schInv
  refine ⟨sessSorted_filter hsorted _, ?_, (List.length_filter_le _ _).trans hroom, fun hne => ?_⟩
  · rw [List.all_eq_true] at hkeys ⊢
    exact fun e he => hkeys e (List.mem_filter.1 he).1
  · simp [hmode hne]

/-- A session for a client that has none, with room in the table, in mode `ECDH` (44_secure_channel.md R236). -/
theorem State.Inv.insertSess (h : s.Inv) {c : Cid} {k : Bytes} (hnew : findSession s.sch.sess c = none)
    (hk : k.length = 16) (hroom : s.sch.sess.length < s.params.nsess) (hmode : s.sch.mode = .ecdh) :
    (s.insertSess c k).Inv := by
  refine h.withSch ?_
  obtain ⟨hsorted, hkeys, -, -⟩ := h.schInv
  refine ⟨sessSorted_insertSession hsorted hnew, ?_, ?_, fun hne => absurd hmode hne⟩
  · rw [List.all_eq_true] at hkeys ⊢
    intro e he
    obtain rfl | he := mem_insertSession.1 he
    · exact decide_eq_true hk
    · exact hkeys e he
  · rw [length_insertSession]; exact hroom

/-- The state of R370 with any LMEM in canonical form (46_system.md R301, 70_reset_and_hazards.md R371). -/
theorem State.inv_resetWith {p : Params} (hp : p.legal = true) (e : Env) {m : Memory} (hwf : m.wf = true)
    (hin : m.within p.lmemSize = true) : State.Inv { State.resetWith p e with lmem := m } :=
  ⟨hp, hwf, hin, EcdhSession.inv_empty, Xfer.inv_reset, Sch.Inv.noSessions _ _ rfl⟩

theorem State.Inv.hwReset (h : s.Inv) : s.hwReset.Inv := State.inv_resetWith h.legal _ rfl rfl

theorem State.Inv.xferFail (h : s.Inv) {e : XferErr} (he : e ≠ .none) : (s.xferFail e).Inv :=
  (h.withXfer (h.xferInv.fail he)).emit _

/-! ## The operations of the units -/

/-- `SendNext()` (45_frame_transfer.md R276). -/
theorem State.Inv.sendNext (h : s.Inv) (hst : s.xfer.state = .waitHdrAck ∨ s.xfer.state = .waitChunkAck) :
    s.sendNext.Inv := by
  obtain ⟨hmore, heq⟩ | ⟨hend, heq⟩ := s.sendNext_cases
  · rw [heq]; exact h.withXfer (State.xferInv_sendChunk h.xferInv hst hmore)
  · rw [heq]
    exact (h.withXfer (h.xferInv.trailerSent (XferState.waiting_of_ackAwaited hst) hend)).emit _

/-- `RxReply(R)` (45_frame_transfer.md R271). -/
theorem State.Inv.rxEvent (h : s.Inv) (r : Bytes) : (s.rxEvent r).Inv := by
  obtain ⟨hst, -, heq⟩ | ⟨-, -, heq⟩ | ⟨-, -, heq⟩ | ⟨hst, -, -, heq⟩ | ⟨-, -, -, heq⟩ | ⟨-, -, heq⟩ |
    ⟨-, heq⟩ := s.rxEvent_cases r <;> rw [heq]
  · exact h.sendNext hst
  · exact h.xferFail (by decide)
  · exact h.xferFail (by decide)
  · exact ((h.withXfer (h.xferInv.done hst)).emit _).emit _
  · exact h.xferFail (by decide)
  · exact h.xferFail (by decide)
  · exact h

theorem State.Inv.decryptEvent (h : s.Inv) (cid : Cid) (k d : Bytes) : (s.decryptEvent cid k d).Inv := by
  obtain ⟨-, heq⟩ | ⟨-, heq⟩ := s.decryptEvent_cases cid k d <;> rw [heq]
  · exact (h.emit _).setLast _
  · exact h.setLast _

/-- A hello in mode `ECDH` from a client without a session (44_secure_channel.md R236). -/
theorem State.Inv.helloEvent (h : s.Inv) {cid : Cid} (b : Bytes) (hmode : s.sch.mode = .ecdh)
    (hnew : findSession s.sch.sess cid = none) : (s.helloEvent cid b).Inv := by
  obtain ⟨-, heq⟩ | ⟨-, -, heq⟩ | ⟨-, hroom, heq⟩ := s.helloEvent_cases cid b <;> rw [heq]
  · exact h.setLast _
  · exact h.setLast _
  · have hkey : ((sharedSecret s.drawn b).take Config.aesBlock).length = 16 := by
      rw [List.length_take, length_sharedSecret]; rfl
    exact (((h.insertSess hnew hkey hroom hmode).emit _).setLast _).afterDraw

/-- `DgIn(cid, D)` (44_secure_channel.md R233). -/
theorem State.Inv.dgEvent (h : s.Inv) (cid : Cid) (d : Bytes) : (s.dgEvent cid d).Inv := by
  obtain ⟨-, heq⟩ | ⟨-, heq⟩ | ⟨k, -, -, heq⟩ | ⟨hmode, hnew, -, heq⟩ | ⟨-, -, -, heq⟩ :=
    s.dgEvent_cases cid d <;> rw [heq]
  · exact (h.emit _).setLast _
  · exact h.decryptEvent _ _ _
  · exact (h.removeSess cid).decryptEvent _ _ _
  · exact h.helloEvent _ hmode hnew
  · exact h.setLast _

/-- The success case of R185, with the padded length in range. -/
theorem State.Inv.encryptWith (h : s.Inv) (k : Bytes)
    (hfits : s.arg2.toNat + paddedLength s.arg1.toNat ≤ s.params.lmemSize) : (s.encryptWith k).Inv := by
  have hlen := length_cbcEnc_le k s.sourceBytes
  rw [s.length_sourceBytes] at hlen
  exact (h.memWrite (by omega)).completeOk _ _

/-- The success case of R186, with the ciphertext's length in range. -/
theorem State.Inv.decryptWith (h : s.Inv) (k : Bytes)
    (hfits : s.arg2.toNat + s.arg1.toNat ≤ s.params.lmemSize) : (s.decryptWith k).Inv := by
  have hlen := length_cbcDec_le k s.sourceBytes
  rw [s.length_sourceBytes] at hlen
  exact (h.memWrite (by omega)).completeOk _ _

/-- The success case of R212. -/
theorem State.Inv.generateWith (h : s.Inv) {d : Nat} (hd : legalScalar d = true)
    (hfits : s.arg0.toNat + 64 ≤ s.params.lmemSize) : (s.generateWith d).Inv :=
  ((h.withEcdh (EcdhSession.inv_keyPair hd)).memWrite (by simpa using hfits)).completeOk _ _

/-- The success case of R213. -/
theorem State.Inv.deriveWith (h : s.Inv) (b : Bytes) (hkey : s.ecdh.keyValid = true)
    (hfits : s.arg2.toNat + 32 ≤ s.params.lmemSize) : (s.deriveWith b).Inv :=
  ((h.withEcdh (h.ecdhInv.withSecret hkey (length_sharedSecret _ _))).memWrite
    (by simpa using hfits)).completeOk _ _

end

/-! ## What the passed checks give -/

section
variable {s : State}

theorem State.output_inRange_of_aesChecks {n : Nat} {rest : List Check}
    (h : ∀ x ∈ s.aesRangeChecks n ++ rest, x.1 = true) : s.arg2.toNat + n ≤ s.params.lmemSize :=
  (s.inRange_eq_true _ _).1 (h (s.inRange s.arg2.toNat n, .errAddr) (by simp [State.aesRangeChecks]))

theorem State.recWord_inRange (hrec : s.recordInRange = true) (hword : s.wordInRecord = true) :
    s.recWordAddr + 4 ≤ s.params.lmemSize := by
  have hend := (s.inRange_eq_true _ _).1 hrec
  have hinside : s.arg0.toNat + 4 ≤ s.bf.recSize.toNat := of_decide_eq_true hword
  rw [State.recWordAddr]; omega

theorem State.maskWord_inRange (hmask : s.maskInRange = true) (hword : s.wordInRecord = true) :
    s.maskWordAddr + 4 ≤ s.params.lmemSize := by
  have hend := (s.inRange_eq_true _ _).1 hmask
  have hinside : s.arg0.toNat + 4 ≤ s.bf.recSize.toNat := of_decide_eq_true hword
  rw [State.maskWordAddr]; omega

end

/-! ## Every instruction and every step keeps the invariants -/

/-- The invariants through every row of the table. -/
theorem State.Inv.exec {s : State} (h : s.Inv) (i : Instr) :
    Result.Ensures (Machine.exec i s) State.Inv := by
  have herr := fun c => h.errorCompletion c
  cases i with
  | nop => exact .next (h.completeOk _ _)
  | crc32 | bfunpack => exact s.checked_ensures herr fun _ => .next (h.completeOk _ _)
  | bfpack =>
    refine s.checked_ensures herr fun hpass => .next ?_
    have hrec : s.recordInRange = true := hpass (s.recordInRange, .errAddr) (by simp [State.bfpackChecks])
    have hmask : s.maskInRange = true := hpass (s.maskInRange, .errAddr) (by simp [State.bfpackChecks])
    have hword : s.wordInRecord = true := hpass (s.wordInRecord, .errAddr) (by simp [State.bfpackChecks])
    exact ((h.memWrite (State.recWord_inRange hrec hword)).memWrite
      (State.maskWord_inRange hmask hword)).completeOk _ _
  | bfclear =>
    refine s.checked_ensures herr fun hpass => .next ?_
    have hrec := (s.inRange_eq_true _ _).1
      (hpass (s.recordInRange, .errAddr) (by simp [State.bfclearChecks]))
    have hmask := (s.inRange_eq_true _ _).1
      (hpass (s.maskInRange, .errAddr) (by simp [State.bfclearChecks]))
    exact ((h.memWrite (by simpa using hrec)).memWrite (by simpa using hmask)).completeOk _ _
  | aesenc =>
    exact s.checked_ensures herr fun hpass =>
      .next (h.encryptWith _ (State.output_inRange_of_aesChecks hpass))
  | aesencS =>
    exact s.checked_ensures herr fun hpass =>
      .next (h.encryptWith _ (State.output_inRange_of_aesChecks hpass)).discardSession
  | aesdec =>
    exact s.checked_ensures herr fun hpass =>
      .next (h.decryptWith _ (State.output_inRange_of_aesChecks hpass))
  | aesdecS =>
    refine s.checked_ensures herr fun hpass => .next ?_
    split
    · exact (h.decryptWith _ (State.output_inRange_of_aesChecks hpass)).discardSession
    · exact (h.errorCompletion _).discardSession
  | ecdhgen =>
    refine s.checked_ensures herr fun hpass => .next ?_
    have hfits := (s.inRange_eq_true _ _).1
      (hpass (s.inRange s.arg0.toNat Config.pubBytes, .errAddr) (by simp [State.ecdhgenChecks]))
    exact (h.generateWith s.legalScalar_drawn hfits).afterDraw
  | ecdhderive =>
    refine s.checked_ensures herr fun hpass => .next ?_
    have hheld : (s.ecdh.keyValid && !s.ecdh.ssValid) = true :=
      hpass (s.ecdh.keyValid && !s.ecdh.ssValid, .errState) (by simp [State.ecdhderiveChecks])
    have hfits := (s.inRange_eq_true _ _).1
      (hpass (s.inRange s.arg2.toNat Config.ssBytes, .errAddr) (by simp [State.ecdhderiveChecks]))
    split
    · exact h.deriveWith _ (Bool.and_elim_left hheld) hfits
    · exact (h.errorCompletion _).discardSession
  | ecdhdiscard => exact .next (h.discardSession.completeOk _ _)
  | xferstart =>
    refine s.checked_ensures herr fun hpass => .next ?_
    obtain ⟨hmin, hmax⟩ := s.chunkLegal_eq_true.1
      (hpass (s.chunkLegal, .errArg) (by simp [State.xferstartChecks]))
    exact ((h.withXfer (Xfer.inv_begin hmin hmax)).emit _).completeOk _ _
  | xferabort =>
    refine .next (State.Inv.completeOk ?_ _ _)
    split
    · exact h.xferFail (by decide)
    · exact h.withXfer h.xferInv.idle
  | schreset => exact .next ((h.clearSess.setLast _).completeOk _ _)
  | sreset =>
    obtain ⟨hp, hwf, hin, -⟩ := h
    refine .next (State.Inv.completeOk ?_ _ _)
    split <;> exact State.inv_resetWith hp _ hwf hin
  | rxReply r => exact .guarded fun _ => .next (h.rxEvent r)
  | okReply => exact .next (h.rxEvent _)
  | trailerReply r => exact .guarded fun _ => .next (h.rxEvent _)
  | rxTimeout =>
    refine .next ?_
    split
    · exact h.xferFail (by decide)
    · exact h
  | dgIn cid d => exact .guarded fun _ => .next (h.dgEvent cid d)
  | helloDatagram cid x y => exact .next (h.dgEvent cid _)
  | cipherDatagram cid d => exact .guarded fun _ => .next (h.dgEvent cid d)
  | hdrFrame | trailerFrame | finalAck | txClose | helloReplyDatagram => exact .next (h.emit _)
  | dataFrame chunk => exact .guarded fun _ => .next (h.emit _)
  | fileRead o n => exact .guarded fun _ => .next (h.afterFileRead _ _)
  | payload cid d => exact .guarded fun _ => .next (h.emit _)

/-- A write to `XFER_CHUNK` (10_state.md R28). -/
theorem State.Inv.writeChunk {s : State} (h : s.Inv) (v : Word) : (s.writeChunk v).Inv := by
  unfold State.writeChunk
  split
  · exact h
  · next hrest => exact h.withXfer (h.xferInv.withChunk (Bool.eq_false_of_not_eq_true hrest) v)

/-- A write to `SCH_CTRL` (10_state.md R33). -/
theorem State.Inv.writeSchCtrl {s : State} (h : s.Inv) (v : Word) : (s.writeSchCtrl v).Inv := by
  unfold State.writeSchCtrl
  split
  · exact h
  · exact h.withSch (Sch.Inv.noSessions _ _ rfl)

/-- A host write to a register: only `XFER_CHUNK` and `SCH_CTRL` reach what the invariants speak of. -/
theorem State.Inv.regWrite {s : State} (h : s.Inv) (off : Nat) (v : Word) : (s.regWrite off v).Inv := by
  unfold State.regWrite
  split
  case h_8 => exact h.writeChunk v -- XFER_CHUNK
  case h_18 => exact h.writeSchCtrl v -- SCH_CTRL
  all_goals exact h

theorem State.Inv.hostWrite8 {s : State} (h : s.Inv) (a : Nat) (b : Byte) : (s.hostWrite8 a b).Inv := by
  unfold State.hostWrite8
  split
  · next hin => exact h.memWrite ((s.inRange_eq_true _ _).1 hin)
  · exact h

/-- One presented operation. -/
theorem State.Inv.deliver {s : State} (h : s.Inv) (x : Input) :
    Result.Ensures (Machine.deliver x s) State.Inv := by
  intro t ht
  obtain ⟨_, i, -, -, hexec⟩ | ⟨_, _, -, -, rfl⟩ | ⟨_, _, -, -, -, rfl⟩ | ⟨_, -, -, rfl⟩ |
    ⟨_, _, -, -, rfl⟩ | ⟨_, -, -, rfl⟩ | ⟨_, -, -, rfl⟩ | ⟨_, -, -, rfl⟩ | ⟨-, rfl⟩ := deliver_cases ht
  · exact h.exec i t hexec
  · exact h.errorCompletion _
  · exact h.regWrite _ _
  · exact h.emit _
  · exact h.hostWrite8 _ _
  · exact h.emit _
  · exact h.withEnv _
  · exact h.withEnv _
  · exact h.hwReset

/-- Settles O11: an idle step changes nothing, any other delivers an operation. -/
theorem stepKeepsTheInvariants : Obligations.StepKeepsTheInvariants := by
  intro s t h ht
  obtain ⟨-, hstep⟩ | ⟨x, rest, -, hstep⟩ := step_cases s
  · rw [hstep] at ht; cases ht; exact h
  · exact h.popInput.deliver x t (hstep ▸ ht)

/-- Settles O10: the state of R370, with empty LMEM. -/
theorem resetMeetsTheInvariants : Obligations.ResetMeetsTheInvariants :=
  State.inv_resetWith (by decide) _ rfl rfl

/-! ## Operands and configuration (10_state.md R21, R60) -/

/-- What the host has written into the registers and what the surroundings have presented: what an instruction
other than `SRESET` leaves alone. -/
def State.config (s : State) :
    Params × (Word × Word × Word × Word) × BfRegs × (Word × Word × Vector Word 8) ×
      (SchMode × Vector Word 4) × (List Input × Bytes) :=
  (s.params, (s.arg0, s.arg1, s.arg2, s.arg3), s.bf, (s.xfer.chunk, s.xfer.timeout, s.xfer.hash),
    (s.sch.mode, s.sch.psk), (s.env.inputs, s.env.file))

theorem State.config_eq_iff (s t : State) : t.config = s.config ↔
    t.params = s.params ∧ t.arg0 = s.arg0 ∧ t.arg1 = s.arg1 ∧ t.arg2 = s.arg2 ∧ t.arg3 = s.arg3 ∧
    t.bf = s.bf ∧ t.xfer.chunk = s.xfer.chunk ∧ t.xfer.timeout = s.xfer.timeout ∧
    t.xfer.hash = s.xfer.hash ∧ t.sch.mode = s.sch.mode ∧ t.sch.psk = s.sch.psk ∧
    t.env.inputs = s.env.inputs ∧ t.env.file = s.env.file := by
  simp [State.config, and_assoc]

theorem State.config_sendNext (s : State) : s.sendNext.config = s.config := by
  obtain ⟨-, heq⟩ | ⟨-, heq⟩ := s.sendNext_cases <;> rw [heq] <;> rfl

theorem State.config_rxEvent (s : State) (r : Bytes) : (s.rxEvent r).config = s.config := by
  obtain ⟨-, -, heq⟩ | ⟨-, -, heq⟩ | ⟨-, -, heq⟩ | ⟨-, -, -, heq⟩ | ⟨-, -, -, heq⟩ | ⟨-, -, heq⟩ |
    ⟨-, heq⟩ := s.rxEvent_cases r <;> rw [heq]
  · exact s.config_sendNext
  all_goals rfl

theorem State.config_decryptEvent (s : State) (cid : Cid) (k d : Bytes) :
    (s.decryptEvent cid k d).config = s.config := by
  obtain ⟨-, heq⟩ | ⟨-, heq⟩ := s.decryptEvent_cases cid k d <;> rw [heq] <;> rfl

theorem State.config_helloEvent (s : State) (cid : Cid) (b : Bytes) :
    (s.helloEvent cid b).config = s.config := by
  obtain ⟨-, heq⟩ | ⟨-, -, heq⟩ | ⟨-, -, heq⟩ := s.helloEvent_cases cid b <;> rw [heq] <;> rfl

theorem State.config_dgEvent (s : State) (cid : Cid) (d : Bytes) : (s.dgEvent cid d).config = s.config := by
  obtain ⟨-, heq⟩ | ⟨-, heq⟩ | ⟨k, -, -, heq⟩ | ⟨-, -, -, heq⟩ | ⟨-, -, -, heq⟩ :=
    s.dgEvent_cases cid d <;> rw [heq]
  · rfl
  · exact s.config_decryptEvent _ _ _
  · exact (s.removeSess cid).config_decryptEvent _ _ _
  · exact s.config_helloEvent _ _
  · rfl

/-- Every row but `SRESET` keeps the configuration. -/
theorem exec_config {i : Instr} (hi : i ≠ .sreset) (s : State) :
    Result.Ensures (exec i s) fun t => t.config = s.config := by
  cases i with
  | nop | ecdhdiscard | schreset => exact .next rfl
  | crc32 | bfpack | bfunpack | bfclear | aesenc | aesencS | aesdec | ecdhgen | xferstart =>
    exact s.checked_ensures (fun _ => rfl) fun _ => .next rfl
  | aesdecS | ecdhderive =>
    refine s.checked_ensures (fun _ => rfl) fun _ => .next ?_
    split <;> rfl
  | xferabort =>
    refine .next ?_
    split <;> rfl
  | sreset => exact absurd rfl hi
  | rxReply r => exact .guarded fun _ => .next (s.config_rxEvent r)
  | okReply => exact .next (s.config_rxEvent _)
  | trailerReply r => exact .guarded fun _ => .next (s.config_rxEvent _)
  | rxTimeout =>
    refine .next ?_
    split <;> rfl
  | dgIn cid d => exact .guarded fun _ => .next (s.config_dgEvent cid d)
  | helloDatagram cid x y => exact .next (s.config_dgEvent cid _)
  | cipherDatagram cid d => exact .guarded fun _ => .next (s.config_dgEvent cid d)
  | hdrFrame | trailerFrame | finalAck | txClose | helloReplyDatagram => exact .next rfl
  | dataFrame | fileRead | payload => exact .guarded fun _ => .next rfl

/-- Settles O15: `exec_config` goes through the rows of the table. -/
theorem commandsKeepOperandsAndConfiguration : Obligations.CommandsKeepOperandsAndConfiguration :=
  fun _ s t hi ht => (s.config_eq_iff t).1 (exec_config hi s t ht)

/-! ## The output trace (10_state.md R44, 20_memory.md R63) -/

/-- A record within the bounds of its port; a file read ends at or before `size`. -/
def Output.Within (size : Nat) (r : Output) : Prop :=
  Output.bounded r = true ∧ ∀ o n answer, r = .fileRead o n answer → o + n ≤ size

/-- Only records within their bounds have been put out between the two states. -/
def State.PutsOut (s t : State) : Prop :=
  ∃ new, t.env.out = s.env.out ++ new ∧ ∀ r ∈ new, Output.Within s.xfer.size.toNat r

section
variable {s t : State}

theorem State.PutsOut.nothing (h : t.env.out = s.env.out) : s.PutsOut t := ⟨[], by simp [h], by simp⟩

theorem State.PutsOut.one {r : Output} (h : t.env.out = s.env.out ++ [r])
    (hr : Output.Within s.xfer.size.toNat r) : s.PutsOut t := ⟨[r], h, by simpa using hr⟩

theorem State.PutsOut.two {r q : Output} (h : t.env.out = s.env.out ++ [r] ++ [q])
    (hr : Output.Within s.xfer.size.toNat r) (hq : Output.Within s.xfer.size.toNat q) : s.PutsOut t :=
  ⟨[r, q], by simp [h], by simpa using ⟨hr, hq⟩⟩

variable {size : Nat}

theorem Output.within_txClose : Output.Within size .txClose := ⟨rfl, nofun⟩

theorem Output.within_tx {b : Bytes} (hmin : 1 ≤ b.length) (hmax : b.length ≤ 65539) :
    Output.Within size (.tx b) := ⟨by simp [Output.bounded, hmin, hmax], nofun⟩

theorem Output.within_payload {b : Bytes} (cid : Cid) (h : b.length ≤ 1024) :
    Output.Within size (.payload cid b) := ⟨decide_eq_true h, nofun⟩

theorem Output.within_dgOut {b : Bytes} (cid : Cid) (h : b.length ≤ 1024) :
    Output.Within size (.dgOut cid b) := ⟨decide_eq_true h, nofun⟩

theorem Output.within_fileRead {o n : Nat} {answer : Bytes} (hmin : 1 ≤ n) (hmax : n ≤ 65535)
    (hlen : answer.length = n) (hend : o + n ≤ size) : Output.Within size (.fileRead o n answer) := by
  refine ⟨by simp [Output.bounded, hmin, hmax, hlen], ?_⟩
  rintro _ _ _ ⟨⟩
  exact hend

theorem Output.within_hdrFrame (n : Word) : Output.Within size (.tx (hdrFrameBytes n)) :=
  within_tx (by simp [hdrFrameBytes]) (by simp [hdrFrameBytes])

theorem Output.within_dataFrame {k : Bytes} (hmax : k.length ≤ 65535) :
    Output.Within size (.tx (dataFrameBytes k)) := by
  refine within_tx ?_ ?_ <;> rw [dataFrameBytes_eq, List.length_append] <;>
    simp only [List.length_cons, List.length_nil] <;> omega

theorem Output.within_trailerFrame : Output.Within size (.tx trailerFrameBytes) :=
  within_tx (by decide) (by decide)

theorem Output.within_finalAck : Output.Within size (.tx finalAckBytes) := within_tx (by decide) (by decide)

/-! ### The operations of the units -/

theorem State.putsOut_xferFail (s : State) (e : XferErr) : s.PutsOut (s.xferFail e) :=
  .one rfl Output.within_txClose

theorem State.putsOut_sendNext (h : s.xfer.Inv)
    (hst : s.xfer.state = .waitHdrAck ∨ s.xfer.state = .waitChunkAck) : s.PutsOut s.sendNext := by
  obtain ⟨hmore, heq⟩ | ⟨-, heq⟩ := s.sendNext_cases <;> rw [heq]
  · obtain ⟨hmin, hmax, hend⟩ := s.nextChunkLen_bounds h (XferState.waiting_of_ackAwaited hst) hmore
    have hlen : s.nextChunk.length = s.nextChunkLen := length_fileBytes _ _ _
    exact .two rfl (Output.within_fileRead hmin hmax hlen hend) (Output.within_dataFrame (hlen.trans_le hmax))
  · exact .one rfl Output.within_trailerFrame

theorem State.putsOut_rxEvent (h : s.xfer.Inv) (r : Bytes) : s.PutsOut (s.rxEvent r) := by
  obtain ⟨hst, -, heq⟩ | ⟨-, -, heq⟩ | ⟨-, -, heq⟩ | ⟨-, -, -, heq⟩ | ⟨-, -, -, heq⟩ | ⟨-, -, heq⟩ |
    ⟨-, heq⟩ := s.rxEvent_cases r <;> rw [heq]
  · exact State.putsOut_sendNext h hst
  · exact s.putsOut_xferFail _
  · exact s.putsOut_xferFail _
  · exact .two rfl Output.within_finalAck Output.within_txClose
  · exact s.putsOut_xferFail _
  · exact s.putsOut_xferFail _
  · exact .nothing rfl

/-- A decrypted payload is no longer than the datagram (42_aes_cbc.md R183). -/
theorem State.putsOut_decryptEvent (s : State) (cid : Cid) (k : Bytes) {d : Bytes} (hd : d.length ≤ 1024) :
    s.PutsOut (s.decryptEvent cid k d) := by
  obtain ⟨-, heq⟩ | ⟨-, heq⟩ := s.decryptEvent_cases cid k d <;> rw [heq]
  · exact .one rfl (Output.within_payload cid ((length_cbcDec_le k d).trans hd))
  · exact .nothing rfl

theorem State.putsOut_helloEvent (s : State) (cid : Cid) (b : Bytes) : s.PutsOut (s.helloEvent cid b) := by
  obtain ⟨-, heq⟩ | ⟨-, -, heq⟩ | ⟨-, -, heq⟩ := s.helloEvent_cases cid b <;> rw [heq]
  · exact .nothing rfl
  · exact .nothing rfl
  · exact .one rfl (Output.within_dgOut cid (by simp [sskBytes]))

theorem State.putsOut_dgEvent (s : State) (cid : Cid) {d : Bytes} (hd : d.length ≤ 1024) :
    s.PutsOut (s.dgEvent cid d) := by
  obtain ⟨-, heq⟩ | ⟨-, heq⟩ | ⟨k, -, -, heq⟩ | ⟨-, -, -, heq⟩ | ⟨-, -, -, heq⟩ :=
    s.dgEvent_cases cid d <;> rw [heq]
  · exact .one rfl (Output.within_payload cid hd)
  · exact s.putsOut_decryptEvent cid _ hd
  · exact (s.removeSess cid).putsOut_decryptEvent cid k hd
  · exact s.putsOut_helloEvent cid _
  · exact .nothing rfl

end

/-- What each row of the table puts out, in a state whose transfer unit meets its invariants. -/
theorem exec_putsOut (i : Instr) {s : State} (h : s.xfer.Inv) : Result.Ensures (exec i s) s.PutsOut := by
  cases i with
  | nop | ecdhdiscard | schreset => exact .next (.nothing rfl)
  | crc32 | bfpack | bfunpack | bfclear | aesenc | aesencS | aesdec | ecdhgen =>
    exact s.checked_ensures (fun _ => .nothing rfl) fun _ => .next (.nothing rfl)
  | aesdecS | ecdhderive =>
    refine s.checked_ensures (fun _ => .nothing rfl) fun _ => .next ?_
    split <;> exact .nothing rfl
  | xferstart =>
    exact s.checked_ensures (fun _ => .nothing rfl) fun _ => .next (.one rfl (Output.within_hdrFrame _))
  | xferabort | rxTimeout =>
    refine .next ?_
    split
    · exact s.putsOut_xferFail _
    · exact .nothing rfl
  | sreset =>
    refine .next ?_
    split
    · exact .one rfl Output.within_txClose
    · exact .nothing rfl
  | rxReply r => exact .guarded fun _ => .next (State.putsOut_rxEvent h r)
  | okReply => exact .next (State.putsOut_rxEvent h _)
  | trailerReply r => exact .guarded fun _ => .next (State.putsOut_rxEvent h _)
  | dgIn cid d => exact .guarded fun hd => .next (s.putsOut_dgEvent cid hd)
  | helloDatagram cid x y =>
    exact .next (s.putsOut_dgEvent cid (by simp [helloBytes, cskBytes]))
  | cipherDatagram cid d => exact .guarded fun hd => .next (s.putsOut_dgEvent cid hd)
  | hdrFrame size => exact .next (.one rfl (Output.within_hdrFrame _))
  | dataFrame chunk => exact .guarded fun hk => .next (.one rfl (Output.within_dataFrame hk.2))
  | trailerFrame => exact .next (.one rfl Output.within_trailerFrame)
  | finalAck => exact .next (.one rfl Output.within_finalAck)
  | txClose => exact .next (.one rfl Output.within_txClose)
  | helloReplyDatagram cid x y =>
    exact .next (.one rfl (Output.within_dgOut cid (by simp [helloReplyBytes, sskBytes])))
  | fileRead o n =>
    refine .guarded fun hread => .next (.one rfl ?_)
    obtain ⟨hmin, hmax, hend⟩ := hread
    exact Output.within_fileRead hmin hmax (length_fileBytes _ _ _) hend
  | payload cid d => exact .guarded fun hd => .next (.one rfl (Output.within_payload cid hd))

/-- Settles O16: of the invariants only those of the transfer unit bound what goes out. -/
theorem outputRecordsAreWithinPortBounds : Obligations.OutputRecordsAreWithinPortBounds :=
  fun i _ t _ hinv ht => exec_putsOut i hinv.xferInv t ht

end Sys2Proof.Machine
end

section
/-! PROOFS. The registers as the host sees them (10_state.md R24 to R37, R356), and what the two draws of a key
pair give (43_ecdh_p256.md R212, 44_secure_channel.md R236). -/

namespace Sys2Proof.Machine

/-! ## Draws in key pairs (10_state.md R48) -/

/-- The range of a draw, as the statements write it. -/
theorem State.drawn_bounds (s : State) : 1 ≤ s.drawn ∧ s.drawn ≤ p256N - 1 := by
  obtain ⟨hmin, hlt⟩ := (legalScalar_iff _).1 s.legalScalar_drawn
  exact ⟨hmin, Nat.le_pred_of_lt hlt⟩

/-- A legal pending value is the one drawn. -/
theorem State.drawn_of_pending {s : State} {e : Num256} {rest : List Num256} (h : s.env.draws = e :: rest)
    (hmin : 1 ≤ e.toNat) (hmax : e.toNat ≤ p256N - 1) : s.drawn = e.toNat :=
  State.drawn_fixed h ((legalScalar_iff _).2 ⟨hmin, Nat.lt_of_le_pred (by decide) hmax⟩)

/-- `ECDHGEN` with its destination inside LMEM (43_ecdh_p256.md R212). -/
theorem exec_ecdhgen_of_fits {s : State} (h : s.arg0.toNat + 64 ≤ s.params.lmemSize) :
    exec .ecdhgen s = .next (s.generateWith s.drawn).afterDraw :=
  State.checked_of_pass _ (by simpa [State.ecdhgenChecks] using h)

/-- `ECDHGEN` with its destination reaching past LMEM (43_ecdh_p256.md R212). -/
theorem exec_ecdhgen_of_not_fits {s : State} (h : s.params.lmemSize < s.arg0.toNat + 64) :
    exec .ecdhgen s = .next (s.errorCompletion .errAddr) :=
  State.checked_of_fail _ (by simpa [State.ecdhgenChecks, State.inRange] using h)

theorem State.generateWith_d (s : State) {d : Nat} (hd : d < 2 ^ 256) :
    (s.generateWith d).ecdh.d.toNat = d := BitVec.toNat_ofNat d 256 ▸ Nat.mod_eq_of_lt hd

/-- The public key stands at `ARG0` (43_ecdh_p256.md R212). -/
theorem State.memRead_generateWith (s : State) (d : Nat) :
    (s.generateWith d).memRead s.arg0.toNat 64 = pubKey d := by
  have hread := fun t : State => t.memRead_memWrite_same s.arg0.toNat (pubKey d)
  simp only [length_pubKey] at hread
  rw [State.generateWith, State.memRead_completeOk, hread]

theorem State.generateWith_lmemSameOutside (s : State) (d : Nat) :
    LmemSameOutside s (s.generateWith d).afterDraw s.arg0.toNat 64 := by
  intro b hb
  rw [State.byteAt_afterDraw, State.generateWith, State.byteAt_completeOk, State.byteAt_memWrite, length_pubKey,
    if_neg hb]
  exact State.byteAt_congr rfl rfl b

/-- Key pair, draw, results and LMEM are all that `ECDHGEN` changes. -/
theorem State.generateWith_onlyChanges (s : State) (d : Nat) :
    OnlyResultsAndLmemChange
      { s with ecdh := (s.generateWith d).afterDraw.ecdh, env := (s.generateWith d).afterDraw.env }
      (s.generateWith d).afterDraw := by
  unfold State.generateWith
  generalize pubKey d = q
  rfl

theorem State.ecdhStatusWord_of_keyOnly {s : State} (hkey : s.ecdh.keyValid = true)
    (hss : s.ecdh.ssValid = false) : s.ecdhStatusWord = 1 := by
  simp [State.ecdhStatusWord, hkey, hss]

/-- Settles O36: the two sides of the range check, and what the draw and the key pair give. -/
theorem ecdhgenMakesAKeyPair : Obligations.EcdhgenMakesAKeyPair := by
  refine ⟨fun s hfits => ?_, fun s hout => exec_ecdhgen_of_not_fits hout⟩
  obtain ⟨hmin, hmax⟩ := s.drawn_bounds
  refine ⟨s.drawn, _, exec_ecdhgen_of_fits hfits, hmin, hmax, fun e rest hpending he1 he2 => ?_,
    ?_, rfl, rfl, State.ecdhStatusWord_of_keyOnly rfl rfl, ?_, ?_, rfl, rfl, rfl, rfl,
    s.generateWith_onlyChanges _⟩
  · exact ⟨State.drawn_of_pending hpending he1 he2, by simp [State.generateWith, hpending]⟩
  · rw [State.afterDraw_ecdh]; exact s.generateWith_d s.drawn_lt
  · rw [State.memRead_afterDraw]; exact s.memRead_generateWith _
  · exact s.generateWith_lmemSameOutside _

/-- A valid hello of a new client, with room in the table (44_secure_channel.md R236). -/
theorem State.dgEvent_hello {s : State} {cid : Cid} {b : Bytes} (hmode : s.sch.mode = .ecdh)
    (hnew : findSession s.sch.sess cid = none) (hvalid : validPeer b = true)
    (hroom : s.sch.sess.length < s.params.nsess) :
    s.dgEvent cid (cskBytes ++ b) = (s.acceptHello cid b s.drawn).afterDraw := by
  have hhello : isHello (cskBytes ++ b) = true := rfl
  have hkey : (cskBytes ++ b).drop 4 = b := rfl
  have hfull : s.tableFull = false := decide_eq_false (Nat.not_le.2 hroom)
  simp [State.dgEvent, State.helloEvent, hmode, hnew, hhello, hkey, hfull, hvalid]

/-- Settles O49: both forms run the hello case, whose insertion changes one client's lookup. -/
theorem helloOpensASession : Obligations.HelloOpensASession := by
  intro s c x y hmode hnew hvalid hroom
  obtain ⟨hmin, hmax⟩ := s.drawn_bounds
  have hevent : s.dgEvent c (helloBytes x y) =
      (s.acceptHello c (toBE256 x.toNat ++ toBE256 y.toNat) s.drawn).afterDraw := by
    rw [helloBytes, List.append_assoc, State.dgEvent_hello hmode hnew hvalid hroom]
  have hexec : exec (.helloDatagram c x y) s =
      .next (s.acceptHello c (toBE256 x.toNat ++ toBE256 y.toNat) s.drawn).afterDraw :=
    congrArg _ hevent
  have hlookup := fun c' => findSession_insertSession s.sch.sess
    { cid := c, key := (sharedSecret s.drawn (toBE256 x.toNat ++ toBE256 y.toNat)).take 16 } c' hnew
  refine ⟨s.drawn, _, hexec, ?_, hmin, hmax, fun e rest => State.drawn_of_pending,
    (hlookup c).trans (if_pos rfl), fun c' hne => (hlookup c').trans (if_neg hne),
    length_insertSession _ _, rfl, rfl, rfl, rfl, rfl⟩
  have hlen : (helloBytes x y).length ≤ 1024 := by simp [helloBytes, cskBytes]
  show execDgIn c (helloBytes x y) s = _
  rw [execDgIn, if_pos hlen]
  exact hexec

/-! ## Host accesses as steps (20_memory.md R66) -/

/-- A host write to a register other than `CMD`. -/
theorem step_of_write32 {s : State} {off : Nat} {v : Word} {rest : List Input}
    (h : s.env.inputs = .write32 (s.params.base + off) v :: rest) (hne : off ≠ 0) (hlt : off < 0x10000)
    (halign : off % 4 = 0) :
    step s = .next ({ s with env := { s.env with inputs := rest } }.regWrite off v) := by
  rw [step_of_pending h, ← State.popInput_of_pending h]
  have hoff : s.popInput.busOffset (s.params.base + off) = off := s.popInput.busOffset_base_add off
  have haccess : s.popInput.wordAccess (s.params.base + off) = true := by
    rw [State.wordAccess_eq_true, hoff]
    exact ⟨Nat.le_add_right _ _, hlt, halign⟩
  rw [deliver, deliverWrite32, if_pos haccess, hoff, if_neg hne]

/-- A host read of a register. -/
theorem step_of_read32 {s : State} {off : Nat} {rest : List Input}
    (h : s.env.inputs = .read32 (s.params.base + off) :: rest) (hlt : off < 0x10000) (halign : off % 4 = 0) :
    step s = .next { s with env := { s.env with
      inputs := rest, out := s.env.out ++ [.hostRead32 (s.params.base + off) (s.regRead off)] } } := by
  rw [step_of_pending h, State.popInput_of_pending h]
  generalize hs : ({ s with env := { s.env with inputs := rest } } : State) = s'
  have hoff : s'.busOffset (s.params.base + off) = off := by subst hs; exact s.busOffset_base_add off
  have haccess : s'.wordAccess (s.params.base + off) = true := by
    rw [State.wordAccess_eq_true, hoff]
    subst hs
    exact ⟨Nat.le_add_right _ _, hlt, halign⟩
  rw [deliver, deliverRead32, if_pos haccess, hoff]
  subst hs
  rfl

/-! ## The register map (10_state.md R24) -/

/-- The offset of a register has 32 bits. -/
theorem word_eq_of_toNat {w : Word} {n : Nat} (h : w.toNat = n) : w = BitVec.ofNat 32 n := by
  rw [← h, BitVec.ofNat_toNat, BitVec.setWidth_eq]

theorem State.regWrite_hash (s : State) (k : Fin 8) (v : Word) :
    s.regWrite (0x48 + 4 * k.val) v = s.writeHash k v := by
  fin_cases k <;> rfl

theorem State.regRead_hash (s : State) (k : Fin 8) : s.regRead (0x48 + 4 * k.val) = s.xfer.hash[k] := by
  fin_cases k <;> rfl

theorem State.regWrite_psk (s : State) (k : Fin 4) (v : Word) :
    s.regWrite (0x70 + 4 * k.val) v = s.writePsk k v := by
  fin_cases k <;> rfl

/-- `XFER_CHUNK` takes a write at rest (10_state.md R28). -/
theorem State.regWrite_chunk_of_rest {s : State} (h : s.xfer.state.waiting = false) (v : Word) :
    s.regWrite 0x30 v = { s with xfer := { s.xfer with chunk := v } } := by
  show s.writeChunk v = _
  rw [State.writeChunk, h, if_neg Bool.false_ne_true]

/-- `XFER_CHUNK` ignores a write in flight (10_state.md R28). -/
theorem State.regWrite_chunk_of_waiting {s : State} (h : s.xfer.state.waiting = true) (v : Word) :
    s.regWrite 0x30 v = s := by
  show s.writeChunk v = s
  rw [State.writeChunk, if_pos h]

/-- Read-only and reserved offsets ignore a write (10_state.md R36, R37). -/
theorem State.regWrite_readOnly (s : State) {off : Nat}
    (h : off ∈ [0x04, 0x18, 0x1C, 0x2C, 0x38, 0x3C, 0x40, 0x44, 0x6C] ∨ 0x80 ≤ off) (v : Word) :
    s.regWrite off v = s := by
  unfold State.regWrite
  split
  case h_23 => rfl -- the offsets without a writable register
  all_goals simp at h

/-- Write-only and reserved offsets read 0 (10_state.md R24, R36). -/
theorem State.regRead_writeOnly (s : State) {off : Nat}
    (h : off ∈ [0x00, 0x70, 0x74, 0x78, 0x7C] ∨ 0x80 ≤ off) : s.regRead off = 0 := by
  unfold State.regRead
  split
  case h_28 => rfl -- the offsets without a readable register
  all_goals simp at h

/-! ## What a register reads back (10_state.md R24, R28) -/

/-- The readable and writable registers but `XFER_HASHk` and `SCH_CTRL`. -/
def plainRegs : List Word := [0x08, 0x0C, 0x10, 0x14, 0x20, 0x24, 0x28, 0x30, 0x34]

/-- The digest registers with the one at `off`, if it is one, set to `v`. -/
def State.hashWith (s : State) (off : Nat) (v : Word) : Vector Word 8 :=
  .ofFn fun k : Fin 8 => if off = 0x48 + 4 * k.val then v else s.xfer.hash[k]

theorem State.hashWith_of_lt (s : State) {off : Nat} (h : off < 0x48) (v : Word) :
    s.hashWith off v = s.xfer.hash := by
  refine Vector.ext fun i hi => ?_
  simp only [State.hashWith, Vector.getElem_ofFn]
  exact if_neg (by omega)

theorem State.hashWith_at (s : State) (k : Fin 8) (v : Word) :
    s.hashWith (0x48 + 4 * k.val) v = s.xfer.hash.set k v := by
  refine Vector.ext fun i hi => ?_
  simp only [State.hashWith, Vector.getElem_ofFn, Vector.getElem_set]
  by_cases h : k.val = i
  · simp [h]
  · rw [if_neg h, if_neg (by omega)]; rfl

/-- The state with the one register at `off` set to `v`. -/
def State.withRegister (s : State) (off v : Word) : State :=
  { s with
    arg0 := if off = 0x08 then v else s.arg0
    arg1 := if off = 0x0C then v else s.arg1
    arg2 := if off = 0x10 then v else s.arg2
    arg3 := if off = 0x14 then v else s.arg3
    bf := { recBase := if off = 0x20 then v else s.bf.recBase
            maskBase := if off = 0x24 then v else s.bf.maskBase
            recSize := if off = 0x28 then v else s.bf.recSize }
    xfer := { s.xfer with chunk := if off = 0x30 then v else s.xfer.chunk
                          timeout := if off = 0x34 then v else s.xfer.timeout
                          hash := s.hashWith off.toNat v } }

theorem State.regWrite_plain {s : State} {off : Word} (hoff : off ∈ plainRegs)
    (hrest : off = 0x30 → s.xfer.state.waiting = false) (v : Word) :
    s.regWrite off.toNat v = s.withRegister off v := by
  have hlt : ∀ o ∈ plainRegs, o.toNat < 0x48 := by simp [plainRegs]
  rw [State.withRegister, s.hashWith_of_lt (hlt off hoff)]
  simp only [plainRegs, List.mem_cons, List.not_mem_nil, or_false] at hoff
  obtain rfl | rfl | rfl | rfl | rfl | rfl | rfl | rfl | rfl := hoff
  case inr.inr.inr.inr.inr.inr.inr.inl => exact State.regWrite_chunk_of_rest (hrest rfl) v
  all_goals rfl

theorem State.regWrite_hash_withRegister (s : State) (k : Fin 8) (v : Word) :
    s.regWrite (0x48 + 4 * k.val) v = s.withRegister (BitVec.ofNat 32 (0x48 + 4 * k.val)) v := by
  have hoff : (BitVec.ofNat 32 (0x48 + 4 * k.val)).toNat = 0x48 + 4 * k.val := by
    rw [BitVec.toNat_ofNat]; omega
  rw [s.regWrite_hash, State.withRegister, hoff, s.hashWith_at]
  fin_cases k <;> rfl

theorem State.regRead_withRegister {s : State} {off : Word} (hoff : off ∈ plainRegs) (v : Word) :
    (s.withRegister off v).regRead off.toNat = v := by
  simp only [plainRegs, List.mem_cons, List.not_mem_nil, or_false] at hoff
  obtain rfl | rfl | rfl | rfl | rfl | rfl | rfl | rfl | rfl := hoff <;> rfl

theorem State.regRead_withRegister_hash (s : State) (k : Fin 8) (v : Word) :
    (s.withRegister (BitVec.ofNat 32 (0x48 + 4 * k.val)) v).regRead (0x48 + 4 * k.val) = v := by
  have hoff : (BitVec.ofNat 32 (0x48 + 4 * k.val)).toNat = 0x48 + 4 * k.val := by
    rw [BitVec.toNat_ofNat]; omega
  rw [State.regRead_hash, State.withRegister, hoff]
  simp [State.hashWith]

/-- A readable and writable register takes the value written and reads it back, and nothing else changes. -/
theorem State.regWrite_readWrite {s : State} {off : Word}
    (hoff : off.toNat ∈ [0x08, 0x0C, 0x10, 0x14, 0x20, 0x24, 0x28, 0x30, 0x34, 0x48, 0x4C, 0x50, 0x54, 0x58,
      0x5C, 0x60, 0x64])
    (hrest : off = 0x30 → s.xfer.state.waiting = false) (v : Word) :
    s.regWrite off.toNat v = s.withRegister off v ∧ (s.withRegister off v).regRead off.toNat = v := by
  obtain hplain | ⟨k, hk⟩ : off ∈ plainRegs ∨ ∃ k : Fin 8, off.toNat = 0x48 + 4 * k.val := by
    by_cases hlt : off.toNat < 0x48
    · left
      rw [← List.mem_map_of_injective fun _ _ => BitVec.eq_of_toNat_eq]
      simp only [List.mem_cons, List.not_mem_nil, or_false] at hoff
      simp only [plainRegs, List.map_cons, List.map_nil, List.mem_cons, List.not_mem_nil, or_false,
        BitVec.reduceToNat]
      omega
    · right
      simp only [List.mem_cons, List.not_mem_nil, or_false] at hoff
      exact ⟨⟨(off.toNat - 0x48) / 4, by omega⟩, by simp only; omega⟩
  · exact ⟨State.regWrite_plain hplain hrest v, State.regRead_withRegister hplain v⟩
  · rw [hk, word_eq_of_toNat hk]
    exact ⟨s.regWrite_hash_withRegister k v, s.regRead_withRegister_hash k v⟩

theorem run_two {s t u : State} (hfirst : step s = .next t) (hsecond : step t = .next u) :
    Host.Core.run Sys2Proof.core 2 s = .next u := by
  have hs : Sys2Proof.core.step s = .next t := hfirst
  have ht : Sys2Proof.core.step t = .next u := hsecond
  simp only [Host.Core.run, hs, ht]

/-- Settles O56: the write sets one register (`withRegister`), and the read gives its value. -/
theorem registerWriteThenRead : Obligations.RegisterWriteThenRead := by
  intro s off v rest hoff hrest hin
  have hbounds : off.toNat ≠ 0 ∧ off.toNat < 0x10000 ∧ off.toNat % 4 = 0 := by
    simp only [List.mem_cons, List.not_mem_nil, or_false] at hoff
    omega
  obtain ⟨hne, hlt, halign⟩ := hbounds
  obtain ⟨hwrite, hread⟩ := State.regWrite_readWrite (s := s.popInput) hoff hrest v
  have hfirst : step s = .next (s.popInput.withRegister off v) := by
    rw [step_of_write32 hin hne hlt halign, ← State.popInput_of_pending hin, hwrite]
  have hpending : (s.popInput.withRegister off v).env.inputs = .read32 (s.params.base + off.toNat) :: rest :=
    congrArg List.tail hin
  have hsecond := step_of_read32 (s := s.popInput.withRegister off v) hpending hlt halign
  rw [hread] at hsecond
  refine ⟨_, run_two hfirst hsecond, fun k => ?_, rfl⟩
  simp [State.withRegister, State.hashWith]

/-! ## The status registers as numbers (10_state.md R25, R27, R30, R33, R34) -/

/-- Two fields side by side, the second at the low bits. -/
theorem toNat_append_eq {m n : Nat} (hi : BitVec m) (lo : BitVec n) :
    (hi ++ lo).toNat = lo.toNat + 2 ^ n * hi.toNat := by
  rw [BitVec.toNat_append, ← Nat.shiftLeft_add_eq_or_of_lt lo.isLt, Nat.shiftLeft_eq]
  ring

theorem Code.toNat_byte_of_mem : ∀ c ∈ codeNumbers, c.1.byte.toNat = c.2 := by decide
theorem XferState.toNat_num_of_mem : ∀ st ∈ xferStateNumbers, st.1.num.toNat = st.2 := by decide
theorem XferErr.toNat_num_of_mem : ∀ e ∈ xferErrNumbers, e.1.num.toNat = e.2 := by decide
theorem SchMode.toNat_num_of_mem : ∀ m ∈ schModeNumbers, m.1.num.toNat = m.2 := by decide

theorem State.toNat_statusWord (s : State) : s.statusWord.toNat = s.code.byte.toNat :=
  BitVec.toNat_setWidth_of_le (by decide)

theorem State.toNat_schCtrlWord (s : State) : s.schCtrlWord.toNat = s.sch.mode.num.toNat :=
  BitVec.toNat_setWidth_of_le (by decide)

theorem State.toNat_ecdhStatusWord (s : State) :
    s.ecdhStatusWord.toNat = (if s.ecdh.keyValid then 1 else 0) + 2 * (if s.ecdh.ssValid then 1 else 0) := by
  rw [State.ecdhStatusWord, BitVec.toNat_setWidth_of_le (by decide), toNat_append_eq]
  cases s.ecdh.keyValid <;> cases s.ecdh.ssValid <;> rfl

theorem State.toNat_xferStatusWord (s : State) :
    s.xferStatusWord.toNat = s.xfer.state.num.toNat + 16 * s.xfer.err.num.toNat := by
  rw [State.xferStatusWord, BitVec.toNat_setWidth_of_le (by decide), toNat_append_eq,
    toNat_append_eq]
  have hgap : (0 : BitVec 1).toNat = 0 := rfl
  omega

theorem State.toNat_schStatusWord (s : State) :
    s.schStatusWord.toNat = s.sch.last.byte.toNat + 256 * min s.sch.sess.length 255 := by
  have hmin : min s.nactive 255 % 2 ^ 8 = min s.nactive 255 := by omega
  rw [State.schStatusWord, BitVec.toNat_setWidth_of_le (by decide), toNat_append_eq,
    BitVec.toNat_ofNat, hmin]
  rfl

/-- Settles O57: each status register by its fields' numbers, every other offset by the register map. -/
theorem readOnlyAndReservedOffsets : Obligations.ReadOnlyAndReservedOffsets := by
  intro s off v rest hlt halign
  refine ⟨fun hoff hin => ?_, fun hin => ⟨s.regRead off.toNat, step_of_read32 hin hlt halign,
    s.regRead_writeOnly, ?status, ?res0, ?res1, ?ecdh, ?xfer, ?size, ?off, ?last, ?ctrl, ?sch⟩⟩
  · have hne : off.toNat ≠ 0 := by
      rintro h
      simp [h] at hoff
    rw [step_of_write32 hin hne hlt halign, State.regWrite_readOnly _ hoff]
  case status =>
    rintro rfl c hc hcode
    exact (hcode ▸ s.toNat_statusWord).trans (Code.toNat_byte_of_mem c hc)
  case ecdh => rintro rfl; exact s.toNat_ecdhStatusWord
  case xfer =>
    rintro rfl st hst e he hstate herr
    have hword := s.toNat_xferStatusWord
    rw [hstate, herr, XferState.toNat_num_of_mem st hst, XferErr.toNat_num_of_mem e he] at hword
    exact hword
  case ctrl =>
    rintro rfl m hm hmode
    exact (hmode ▸ s.toNat_schCtrlWord).trans (SchMode.toNat_num_of_mem m hm)
  case sch =>
    rintro rfl c hc hlast
    have hword := s.toNat_schStatusWord
    rw [hlast, Code.toNat_byte_of_mem c hc] at hword
    exact hword
  all_goals rintro rfl; rfl

/-! ## Byte strings in registers (10_state.md R36) -/

/-- `ToLE32` by division (00_scope.md R12). -/
theorem toLE32_eq (w : Word) : toLE32 w =
    [BitVec.ofNat 8 w.toNat, BitVec.ofNat 8 (w.toNat / 2 ^ 8), BitVec.ofNat 8 (w.toNat / 2 ^ 16),
      BitVec.ofNat 8 (w.toNat / 2 ^ 24)] := by
  simp only [toLE32, BitVec.extractLsb', Nat.shiftRight_eq_div_pow, pow_zero, Nat.div_one]

theorem bytesOfRegs_cons (w : Word) (ws : List Word) : bytesOfRegs (w :: ws) = toLE32 w ++ bytesOfRegs ws :=
  List.flatMap_cons

theorem length_bytesOfRegs (ws : List Word) : (bytesOfRegs ws).length = 4 * ws.length := by
  induction ws with
  | nil => rfl
  | cons w ws ih => rw [bytesOfRegs_cons, List.length_append, length_toLE32, ih, List.length_cons]; omega

/-- Byte `j` stands in register `j / 4`, lowest byte first. -/
theorem getD_bytesOfRegs (ws : List Word) (j : Nat) :
    (bytesOfRegs ws).getD j 0 = BitVec.ofNat 8 ((ws.getD (j / 4) 0).toNat / 2 ^ (8 * (j % 4))) := by
  induction ws generalizing j with
  | nil => simp [bytesOfRegs]
  | cons w ws ih =>
    rw [bytesOfRegs_cons, toLE32_eq]
    match j with
    | 0 | 1 | 2 | 3 => simp
    | j + 4 =>
      rw [show (j + 4) / 4 = j / 4 + 1 by omega, Nat.add_mod_right]
      exact ih j

/-- A write to one register changes its four bytes. -/
theorem getD_bytesOfRegs_set {ws : List Word} {k : Nat} (hk : k < ws.length) (v : Word) (j : Nat) :
    (bytesOfRegs (ws.set k v)).getD j 0 =
      if 4 * k ≤ j ∧ j < 4 * k + 4 then BitVec.ofNat 8 (v.toNat / 2 ^ (8 * (j - 4 * k)))
      else (bytesOfRegs ws).getD j 0 := by
  rw [getD_bytesOfRegs, getD_bytesOfRegs]
  split
  · rw [show j / 4 = k by omega, show j % 4 = j - 4 * k by omega]
    simp [hk]
  · have hne : k ≠ j / 4 := by omega
    simp [List.getD_eq_getElem?_getD, List.getElem?_set_ne hne]

/-! ## The control registers (10_state.md R33, R35, R36) -/

/-- The two bits of `MODE` by division. -/
theorem mode_bits_eq {v : Word} {n : Nat} (h : v.toNat % 4 = n) : v.extractLsb' 0 2 = BitVec.ofNat 2 n := by
  refine BitVec.eq_of_toNat_eq ?_
  simp only [BitVec.extractLsb'_toNat, BitVec.toNat_ofNat, Nat.shiftRight_zero]
  omega

theorem schModeOf_of_mem : ∀ m ∈ schModeNumbers, schModeOf (BitVec.ofNat 2 m.2) = some m.1 := by decide

theorem State.writeSchCtrl_of_none {s : State} {v : Word} (h : schModeOf (v.extractLsb' 0 2) = none) :
    s.writeSchCtrl v = s := by
  rw [State.writeSchCtrl, h]

theorem State.writeSchCtrl_of_some {s : State} {v : Word} {m : SchMode}
    (h : schModeOf (v.extractLsb' 0 2) = some m) :
    s.writeSchCtrl v = { s with sch := { s.sch with mode := m, sess := [] } } := by
  rw [State.writeSchCtrl, h]; rfl

/-- The pre-shared key after a write to `SCH_PSKk`. -/
theorem State.getD_pskBytes_writePsk (s : State) (k : Fin 4) (v : Word) (j : Nat) :
    (s.writePsk k v).pskBytes.getD j 0 =
      if 4 * k.val ≤ j ∧ j < 4 * k.val + 4 then BitVec.ofNat 8 (v.toNat / 2 ^ (8 * (j - 4 * k.val)))
      else s.pskBytes.getD j 0 := by
  rw [State.pskBytes, State.writePsk_sch_psk, Vector.toList_set]
  exact getD_bytesOfRegs_set (by simp) v j

/-- The digest after a write to `XFER_HASHk`. -/
theorem State.getD_digest_writeHash (s : State) (k : Fin 8) (v : Word) (j : Nat) :
    (s.writeHash k v).digest.getD j 0 =
      if 4 * k.val ≤ j ∧ j < 4 * k.val + 4 then BitVec.ofNat 8 (v.toNat / 2 ^ (8 * (j - 4 * k.val)))
      else s.digest.getD j 0 := by
  rw [State.digest, State.writeHash_xfer_hash, Vector.toList_set]
  exact getD_bytesOfRegs_set (by simp) v j

theorem State.length_pskBytes (s : State) : s.pskBytes.length = 16 := by
  simp [State.pskBytes, length_bytesOfRegs]

theorem State.length_digest (s : State) : s.digest.length = 32 := by
  simp [State.digest, length_bytesOfRegs]

/-- Settles O58: each write as its own operation, the byte strings register by register. -/
theorem controlRegisterWrites : Obligations.ControlRegisterWrites := by
  intro s v rest
  refine ⟨fun hin hmode => ?_, fun hin m hm hmode => ?_, fun hin hwait => ?_, fun k hk hin => ?_,
    fun k hk hin => ?_⟩
  · rw [step_of_write32 hin (by decide) (by decide) (by decide)]
    exact congrArg _ (State.writeSchCtrl_of_none (by rw [mode_bits_eq hmode]; rfl))
  · rw [step_of_write32 hin (by decide) (by decide) (by decide)]
    exact congrArg _ (State.writeSchCtrl_of_some (by rw [mode_bits_eq hmode, schModeOf_of_mem m hm]))
  · rw [step_of_write32 hin (by decide) (by decide) (by decide)]
    rw [State.regWrite_chunk_of_waiting]
    exact hwait
  · have hstep := step_of_write32 hin (by omega) (by omega) (by omega)
    rw [State.regWrite_psk _ ⟨k, hk⟩] at hstep
    exact ⟨_, hstep, rfl, State.length_pskBytes _, fun j _ => State.getD_pskBytes_writePsk _ ⟨k, hk⟩ v j⟩
  · have hstep := step_of_write32 hin (by omega) (by omega) (by omega)
    rw [State.regWrite_hash _ ⟨k, hk⟩] at hstep
    exact ⟨_, hstep, rfl, State.length_digest _, fun j _ => State.getD_digest_writeHash _ ⟨k, hk⟩ v j⟩

/-! ## Secrets (10_state.md R40, R42, R356) -/

/-- Settles O60: no register and no byte of LMEM shows a secret; of the session table only its length. -/
theorem secretsHaveNoReadPath : Obligations.SecretsHaveNoReadPath := by
  intro s d q z psk keys off table s' hlen
  have htable : table.length = s.sch.sess.length := by
    simp only [table, List.length_zipWith]; omega
  have hactive : s'.schStatusWord = s.schStatusWord := by
    simp only [State.schStatusWord, State.nactive, s', htable]
  refine ⟨?_, rfl⟩
  unfold State.regRead
  split
  case h_27 => exact hactive -- SCH_STATUS
  all_goals rfl

end Sys2Proof.Machine
end

section
/-! PROOFS. LMEM as the instructions and the host see it: which instructions leave every byte as it reads
(20_memory.md R62), and a host byte written and read back (R61, R67, R71). -/

namespace Sys2Proof.Machine

/-! ## What leaves LMEM as it reads (20_memory.md R62) -/

theorem State.byteAt_sendNext (s : State) : s.sendNext.byteAt = s.byteAt := by
  obtain ⟨-, heq⟩ | ⟨-, heq⟩ := s.sendNext_cases <;> rw [heq] <;> rfl

theorem State.byteAt_rxEvent (s : State) (r : Bytes) : (s.rxEvent r).byteAt = s.byteAt := by
  obtain ⟨-, -, heq⟩ | ⟨-, -, heq⟩ | ⟨-, -, heq⟩ | ⟨-, -, -, heq⟩ | ⟨-, -, -, heq⟩ | ⟨-, -, heq⟩ |
    ⟨-, heq⟩ := s.rxEvent_cases r <;> rw [heq]
  · exact s.byteAt_sendNext
  all_goals rfl

theorem State.byteAt_decryptEvent (s : State) (cid : Cid) (k d : Bytes) :
    (s.decryptEvent cid k d).byteAt = s.byteAt := by
  obtain ⟨-, heq⟩ | ⟨-, heq⟩ := s.decryptEvent_cases cid k d <;> rw [heq] <;> rfl

theorem State.byteAt_helloEvent (s : State) (cid : Cid) (b : Bytes) :
    (s.helloEvent cid b).byteAt = s.byteAt := by
  obtain ⟨-, heq⟩ | ⟨-, -, heq⟩ | ⟨-, -, heq⟩ := s.helloEvent_cases cid b <;> rw [heq] <;> rfl

theorem State.byteAt_dgEvent (s : State) (cid : Cid) (d : Bytes) : (s.dgEvent cid d).byteAt = s.byteAt := by
  obtain ⟨-, heq⟩ | ⟨-, heq⟩ | ⟨k, -, -, heq⟩ | ⟨-, -, -, heq⟩ | ⟨-, -, -, heq⟩ :=
    s.dgEvent_cases cid d <;> rw [heq]
  · rfl
  · exact s.byteAt_decryptEvent _ _ _
  · exact (s.removeSess cid).byteAt_decryptEvent _ _ _
  · exact s.byteAt_helloEvent _ _
  · rfl

/-- The commands with a destination in LMEM (20_memory.md R62), in both forms of the AES commands. -/
def lmemWriters : List Instr :=
  [.bfpack, .bfclear, .aesenc, .aesencS, .aesdec, .aesdecS, .ecdhgen, .ecdhderive]

/-- Every other row of the table leaves LMEM as it reads; `SRESET` keeps it by its own rule (46_system.md R301). -/
theorem exec_byteAt {i : Instr} (hi : i ∉ lmemWriters) (s : State) :
    Result.Ensures (exec i s) fun t => t.byteAt = s.byteAt := by
  cases i with
  | bfpack | bfclear | aesenc | aesencS | aesdec | aesdecS | ecdhgen | ecdhderive =>
    exact absurd (by decide) hi
  | nop | ecdhdiscard | schreset => exact .next rfl
  | crc32 | bfunpack | xferstart => exact s.checked_ensures (fun _ => rfl) fun _ => .next rfl
  | xferabort | sreset | rxTimeout =>
    refine .next ?_
    split <;> rfl
  | rxReply r => exact .guarded fun _ => .next (s.byteAt_rxEvent r)
  | okReply => exact .next (s.byteAt_rxEvent _)
  | trailerReply r => exact .guarded fun _ => .next (s.byteAt_rxEvent _)
  | dgIn cid d => exact .guarded fun _ => .next (s.byteAt_dgEvent cid d)
  | helloDatagram cid x y => exact .next (s.byteAt_dgEvent cid _)
  | cipherDatagram cid d => exact .guarded fun _ => .next (s.byteAt_dgEvent cid d)
  | hdrFrame | trailerFrame | finalAck | txClose | helloReplyDatagram => exact .next rfl
  | dataFrame | fileRead | payload => exact .guarded fun _ => .next rfl

/-- Settles O14: `exec_byteAt` goes through the rows of the table. -/
theorem onlySixCommandsWriteLmem : Obligations.OnlySixCommandsWriteLmem :=
  fun _ s t hi ht => congrFun (exec_byteAt hi s t ht)

/-! ## Host byte accesses (20_memory.md R61) -/

section
variable {s : State} {a : Nat}

theorem State.hostWrite8_inside (h : a < s.params.lmemSize) (b : Byte) :
    s.hostWrite8 a b = s.memWrite a [b] := if_pos ((s.inRange_eq_true a 1).2 h)

theorem State.hostRead8_inside (h : a < s.params.lmemSize) : s.hostRead8 a = s.byteAt a :=
  if_pos ((s.inRange_eq_true a 1).2 h)

theorem State.hostWrite8_beyond (h : s.params.lmemSize ≤ a) (b : Byte) : s.hostWrite8 a b = s :=
  if_neg fun hin => h.not_gt ((s.inRange_eq_true a 1).1 hin)

theorem State.hostRead8_beyond (h : s.params.lmemSize ≤ a) : s.hostRead8 a = 0 :=
  if_neg fun hin => h.not_gt ((s.inRange_eq_true a 1).1 hin)

/-- A byte read after one byte has been written. -/
theorem State.byteAt_memWrite_one (s : State) (a : Nat) (b : Byte) (c : Nat) :
    (s.memWrite a [b]).byteAt c = if c = a then b else s.byteAt c := by
  rw [State.byteAt_memWrite, List.length_singleton]
  by_cases hc : c = a
  · subst hc; simp
  · rw [if_neg hc, if_neg (by omega)]

/-- The offset in the LMEM window of its bus address (10_state.md R24). -/
theorem State.busOffset_window (s : State) (a : Nat) :
    s.busOffset (s.params.base + (0x10000 + a)) - lmemWindow = a := by
  rw [State.busOffset_base_add, Nat.add_sub_cancel_left]

/-! ## Host byte accesses as steps (20_memory.md R67, R71) -/

theorem deliverWrite8_window (hp : s.params.legal = true) (h : a < s.params.lmemSize) (b : Byte) :
    deliverWrite8 (s.params.base + (0x10000 + a)) b s = .next (s.memWrite a [b]) := by
  rw [deliverWrite8, if_pos ((State.byteAccess_window hp a).2 h), s.busOffset_window, State.hostWrite8_inside h]

theorem deliverRead8_window (hp : s.params.legal = true) (h : a < s.params.lmemSize) :
    deliverRead8 (s.params.base + (0x10000 + a)) s =
      .next (s.emit (.hostRead8 (s.params.base + (0x10000 + a)) (s.byteAt a))) := by
  rw [deliverRead8, if_pos ((State.byteAccess_window hp a).2 h), s.busOffset_window, State.hostRead8_inside h]

variable {b : Byte} {rest : List Input}

/-- A host byte write inside LMEM. -/
theorem step_of_write8 (hp : s.params.legal = true) (h : a < s.params.lmemSize)
    (hin : s.env.inputs = .write8 (s.params.base + (0x10000 + a)) b :: rest) :
    step s = .next (s.popInput.memWrite a [b]) := by
  rw [step_of_pending hin]
  exact deliverWrite8_window (s := s.popInput) hp h b

/-- A host byte read inside LMEM. -/
theorem step_of_read8 (hp : s.params.legal = true) (h : a < s.params.lmemSize)
    (hin : s.env.inputs = .read8 (s.params.base + (0x10000 + a)) :: rest) :
    step s = .next (s.popInput.emit (.hostRead8 (s.params.base + (0x10000 + a)) (s.byteAt a))) := by
  rw [step_of_pending hin]
  exact deliverRead8_window (s := s.popInput) hp h

/-- The step refuses a byte access beyond LMEM (93_implementation_defined.md U14; log 7). -/
theorem step_refuses_beyond_lmem (hp : s.params.legal = true) (h : s.params.lmemSize ≤ a)
    (hin : s.env.inputs = .write8 (s.params.base + (0x10000 + a)) b :: rest ∨
      s.env.inputs = .read8 (s.params.base + (0x10000 + a)) :: rest) :
    step s = .refused .busAccess := by
  have hrefused : ¬ s.popInput.byteAccess (s.params.base + (0x10000 + a)) = true :=
    fun haccess => h.not_gt ((State.byteAccess_window (s := s.popInput) hp a).1 haccess)
  obtain hin | hin := hin <;> rw [step_of_pending hin]
  · exact if_neg hrefused
  · exact if_neg hrefused

end

/-- Settles O59: the write and the read step by step; beyond LMEM the operations and the step apart. -/
theorem lmemByteWriteThenRead : Obligations.LmemByteWriteThenRead := by
  intro s a b rest hp addr
  refine ⟨fun h hin => ?_, fun h => ⟨State.hostWrite8_beyond h b, State.hostRead8_beyond h⟩,
    step_refuses_beyond_lmem hp⟩
  have hpending : (s.popInput.memWrite a [b]).env.inputs = .read8 addr :: rest := congrArg List.tail hin
  have hbyte := s.popInput.byteAt_memWrite_one a b
  have hread := step_of_read8 (s := s.popInput.memWrite a [b]) hp h hpending
  rw [hbyte, if_pos rfl] at hread
  refine ⟨_, run_two (step_of_write8 hp h hin) hread, ?_, (hbyte a).trans (if_pos rfl),
    fun a' hne => (hbyte a').trans (if_neg hne)⟩
  rw [State.popInput_of_pending hpending, State.popInput_of_pending hin]
  rfl

end Sys2Proof.Machine
end

section
/-! PROOFS. Decoder and encoder are inverse on every wire form (30_encoding.md R90 to R107); the name the decoder
gives a record changes neither its bytes nor what it does (log 10); the digits of a trailer reply (R107). -/

namespace Sys2Proof.Machine

/-! ## Integers as bytes (00_scope.md R12) -/

theorem be256_append_singleton (b : Bytes) (x : Byte) : be256 (b ++ [x]) = be256 b * 256 + x.toNat := by
  simp [be256]

theorem be256_lt (b : Bytes) : be256 b < 256 ^ b.length := by
  induction b using List.reverseRecOn with
  | nil => decide
  | append_singleton b x ih =>
    rw [be256_append_singleton, List.length_append, List.length_singleton, pow_succ]
    omega

/-- Digit `k` to base 256, counted from the end, is the byte there. -/
theorem be256_digit (b : Bytes) {k : Nat} (hk : k < b.length) :
    be256 b / 256 ^ k % 256 = (b[b.length - 1 - k]).toNat := by
  induction b using List.reverseRecOn generalizing k with
  | nil => cases hk
  | append_singleton b x ih =>
    rw [be256_append_singleton]
    cases k with
    | zero => simp; omega
    | succ k =>
      have hk : k < b.length := by simpa using hk
      have hdiv : (be256 b * 256 + x.toNat) / 256 = be256 b := by omega
      rw [pow_succ', ← Nat.div_div_eq_div_mul, hdiv, ih hk]
      congr 1
      simp only [List.length_append, List.length_singleton]
      rw [List.getElem_append_left (by omega)]
      congr 1; omega

/-- `ToBE256` undoes `BE256` on 32 bytes. -/
theorem toBE256_be256 {b : Bytes} (hb : b.length = 32) : toBE256 (be256 b) = b := by
  refine List.ext_getElem (by simp [hb]) fun i _ hi => BitVec.eq_of_toNat_eq ?_
  have hdigit := be256_digit b (k := 31 - i) (by omega)
  have hindex : b.length - 1 - (31 - i) = i := by omega
  simp only [hindex] at hdigit
  simpa [toBE256, Nat.shiftRight_eq_div_pow, pow_mul] using hdigit

/-- The first `n` bytes of `ToBE256` hold the leading `n` digits. -/
theorem be256_toBE256_leading {v n : Nat} (hv : v < 256 ^ 32) (hn : n ≤ 32) :
    be256 ((List.range n).map fun i => BitVec.ofNat 8 (v >>> (8 * (31 - i)))) = v / 256 ^ (32 - n) := by
  induction n with
  | zero => exact (Nat.div_eq_of_lt hv).symm
  | succ n ih =>
    rw [List.range_succ, List.map_append, List.map_singleton, be256_append_singleton, ih (by omega),
      show 32 - n = 31 - n + 1 by omega, show 32 - (n + 1) = 31 - n by omega, pow_succ,
      ← Nat.div_div_eq_div_mul, BitVec.toNat_ofNat, Nat.shiftRight_eq_div_pow, pow_mul]
    exact Nat.div_add_mod' _ 256

/-- `BE256` undoes `ToBE256`. -/
theorem be256_toBE256 (x : Num256) : be256 (toBE256 x.toNat) = x.toNat := by
  have h := be256_toBE256_leading (n := 32) (show x.toNat < 256 ^ 32 from x.isLt) le_rfl
  rwa [Nat.sub_self, pow_zero, Nat.div_one] at h

/-- `ToLE32` undoes `LE32`. -/
theorem toLE32_word32 (b0 b1 b2 b3 : Byte) : toLE32 (word32 b0 b1 b2 b3) = [b0, b1, b2, b3] := by
  have hword : (word32 b0 b1 b2 b3).toNat =
      b0.toNat + 2 ^ 8 * (b1.toNat + 2 ^ 8 * (b2.toNat + 2 ^ 8 * b3.toNat)) := by
    simp only [word32, toNat_append_eq]
  rw [toLE32_eq, hword]
  congr <;> refine BitVec.eq_of_toNat_eq ?_ <;> simp <;> omega

/-- The length field of a data frame (30_encoding.md R102) as its two bytes. -/
theorem half16_eq_ofNat_iff (b0 b1 : Byte) (n : Nat) :
    (half16 b0 b1).toNat = n ↔ n < 65536 ∧ b0 = BitVec.ofNat 8 n ∧ b1 = BitVec.ofNat 8 (n / 256) := by
  rw [half16, toNat_append_eq, ← BitVec.toNat_inj, ← BitVec.toNat_inj]
  simp
  omega

/-! ## Command words (30_encoding.md R91, R92) -/

/-- The opcodes of R92. -/
abbrev opcodes : List Nat :=
  [0x00, 0x01, 0x02, 0x03, 0x04, 0x10, 0x11, 0x20, 0x21, 0x22, 0x30, 0x31, 0x40, 0x7F]

/-- The rows of the opcode map: the words of an opcode's commands, and the two opcodes that take a key. -/
theorem opcodeMap_row {n : Nat} {plain : Instr} {keyed : Option Instr}
    (h : opcodeMap n = some (plain, keyed)) :
    n ∈ opcodes ∧ encode plain = .command (BitVec.ofNat 32 n) ∧
      (∀ i ∈ keyed, encode i = .command (BitVec.ofNat 32 (256 + n))) ∧
      (keyed.isSome = true ↔ n = 0x10 ∨ n = 0x11) := by
  unfold opcodeMap at h
  split at h <;> cases h <;> simp [encode]

theorem opcodeMap_isSome : ∀ n ∈ opcodes, (opcodeMap n).isSome = true := by decide

/-- R91 by division: no reserved bit, an opcode, and `KSEL` only where the opcode takes a key. -/
theorem decodeCommand_eq_ok_iff {c : Word} {i : Instr} : decodeCommand c = .ok i ↔
    c.toNat / 512 = 0 ∧ ∃ plain keyed, opcodeMap (c.toNat % 256) = some (plain, keyed) ∧
      if c.getLsbD 8 then keyed = some i else plain = i := by
  have hreserved : c.extractLsb' 9 23 = 0 ↔ c.toNat / 512 = 0 := by
    rw [← BitVec.toNat_inj]
    simp [Nat.shiftRight_eq_div_pow]
    omega
  have hopcode : (c.extractLsb' 0 8).toNat = c.toNat % 256 := by simp
  rw [decodeCommand, hopcode, ← hreserved]
  by_cases hzero : c.extractLsb' 9 23 = 0
  · rw [if_neg (not_not_intro hzero)]
    cases hmap : opcodeMap (c.toNat % 256) with
    | none => simp
    | some row =>
      obtain ⟨plain, keyed⟩ := row
      cases hksel : c.getLsbD 8 <;> cases keyed <;> simp [hzero]
  · rw [if_pos hzero]
    exact iff_of_false nofun fun h => hzero h.1

/-- A legal command word encodes the command it decodes to. -/
theorem encode_of_decodeCommand {c : Word} {i : Instr} (h : decodeCommand c = .ok i) :
    encode i = .command c := by
  obtain ⟨hreserved, plain, keyed, hmap, hksel⟩ := decodeCommand_eq_ok_iff.1 h
  obtain ⟨-, hplain, hkeyed, -⟩ := opcodeMap_row hmap
  have hbit : c.getLsbD 8 = decide (c.toNat / 256 % 2 = 1) := Nat.testBit_eq_decide_div_mod_eq
  simp only [hbit, decide_eq_true_eq] at hksel
  split at hksel
  · have hc : 256 + c.toNat % 256 = c.toNat := by omega
    rw [hkeyed i hksel, hc, BitVec.ofNat_toNat, BitVec.setWidth_eq]
  · have hc : c.toNat % 256 = c.toNat := by omega
    rw [← hksel, hplain, hc, BitVec.ofNat_toNat, BitVec.setWidth_eq]

/-- The three conditions of R91. -/
theorem exists_decodeCommand_iff (c : Word) : (∃ i, decodeCommand c = .ok i) ↔
    ¬ (c.toNat / 512 ≠ 0 ∨ c.toNat % 256 ∉ opcodes ∨
      (c.getLsbD 8 = true ∧ c.toNat % 256 ≠ 0x10 ∧ c.toNat % 256 ≠ 0x11)) := by
  simp only [decodeCommand_eq_ok_iff]
  constructor
  · rintro ⟨i, hreserved, plain, keyed, hmap, hksel⟩
    obtain ⟨hmem, -, -, htakes⟩ := opcodeMap_row hmap
    rintro (h | h | ⟨hbit, hne⟩)
    · exact h hreserved
    · exact h hmem
    · rw [if_pos hbit] at hksel
      have := htakes.1 (by rw [hksel]; rfl)
      omega
  · intro hlegal
    push Not at hlegal
    obtain ⟨hreserved, hmem, hkey⟩ := hlegal
    obtain ⟨⟨plain, keyed⟩, hmap⟩ := Option.isSome_iff_exists.1 (opcodeMap_isSome _ hmem)
    obtain ⟨-, -, -, htakes⟩ := opcodeMap_row hmap
    cases hbit : c.getLsbD 8
    · exact ⟨plain, hreserved, plain, keyed, hmap, by simp⟩
    · obtain ⟨i, rfl⟩ := Option.isSome_iff_exists.1 (htakes.2 (by have := hkey hbit; omega))
      exact ⟨i, hreserved, plain, _, hmap, by simp⟩

/-- R92: the word of a command decodes to it. -/
theorem decode_encode_command {i : Instr} (hi : i.isCommand = true) : decode (encode i) = .ok i := by
  cases i with
  | nop | crc32 | bfpack | bfunpack | bfclear | aesenc | aesencS | aesdec | aesdecS | ecdhgen | ecdhderive
  | ecdhdiscard | xferstart | xferabort | schreset | sreset => rfl
  | _ => cases hi

/-! ## Replies and datagrams (30_encoding.md R97 to R100, R106, R107) -/

/-- A record of a tag and two coordinates: what a hello and its reply have in common (R98, R99). -/
def keyRecord (tag : Bytes) (x y : Num256) : Bytes := tag ++ toBE256 x.toNat ++ toBE256 y.toNat

theorem helloBytes_eq_keyRecord (x y : Num256) : helloBytes x y = keyRecord cskBytes x y := rfl

theorem helloReplyBytes_eq_keyRecord (x y : Num256) : helloReplyBytes x y = keyRecord sskBytes x y := rfl

/-- The first coordinate the decoder reads from a record of 68 bytes (`datagramForm`, `decodeDgOut`). -/
def recordX (d : Bytes) : Num256 := BitVec.ofNat 256 (be256 ((d.drop 4).take 32))

/-- The second coordinate. -/
def recordY (d : Bytes) : Num256 := BitVec.ofNat 256 (be256 (d.drop 36))

section
variable {tag : Bytes} (htag : tag.length = 4) (x y : Num256)
include htag

theorem length_keyRecord : (keyRecord tag x y).length = 68 := by simp [keyRecord, htag]

theorem take_keyRecord : (keyRecord tag x y).take 4 = tag := by
  rw [keyRecord, List.append_assoc, List.take_left' htag]

theorem recordX_keyRecord : recordX (keyRecord tag x y) = x := by
  rw [recordX, keyRecord, List.append_assoc, List.drop_left' htag, List.take_left' (length_toBE256 _),
    be256_toBE256, BitVec.ofNat_toNat, BitVec.setWidth_eq]

theorem recordY_keyRecord : recordY (keyRecord tag x y) = y := by
  rw [recordY, keyRecord, List.drop_left' (by simp [htag]), be256_toBE256, BitVec.ofNat_toNat,
    BitVec.setWidth_eq]

end

/-- A coordinate read from 32 bytes has these bytes. -/
theorem toBE256_coordinate {b : Bytes} (hb : b.length = 32) :
    toBE256 (BitVec.ofNat 256 (be256 b)).toNat = b := by
  have hlt : be256 b < 2 ^ 256 := (be256_lt b).trans_eq (by rw [hb]; rfl)
  rw [BitVec.toNat_ofNat, Nat.mod_eq_of_lt hlt, toBE256_be256 hb]

/-- A record of 68 bytes, put together again from its parts. -/
theorem keyRecord_of_parts {d : Bytes} (hd : d.length = 68) :
    keyRecord (d.take 4) (recordX d) (recordY d) = d := by
  rw [keyRecord, recordX, recordY, toBE256_coordinate (by simp [hd]), toBE256_coordinate (by simp [hd]),
    List.append_assoc, show d.drop 36 = (d.drop 4).drop 32 by rw [List.drop_drop], List.take_append_drop,
    List.take_append_drop]

theorem okBytes_append_drop {r : Bytes} (h : startsOk r = true) : okBytes ++ r.drop 2 = r := by
  rw [← beq_iff_eq.1 h, List.take_append_drop]

theorem encode_replyForm (r : Bytes) : encode (replyForm r) = .rx r := by
  unfold replyForm
  split
  · next hok => exact congrArg Wire.rx (beq_iff_eq.1 hok).symm
  · split
    · next hok => exact congrArg Wire.rx (okBytes_append_drop hok)
    · rfl

/-- A reply "OK" with a rest is named as `Instr.canon` names it (log 10). -/
theorem replyForm_okBytes_append (h : Bytes) :
    replyForm (okBytes ++ h) = if h.isEmpty then .okReply else .trailerReply h := by
  cases h <;> simp [replyForm, isOk, startsOk, okBytes]

theorem helloBytes_of_isHello {d : Bytes} (h : (isHello d && d.length == 68) = true) :
    helloBytes (recordX d) (recordY d) = d := by
  simp only [isHello, Bool.and_eq_true, beq_iff_eq] at h
  rw [helloBytes_eq_keyRecord, ← h.1]
  exact keyRecord_of_parts h.2

theorem encode_datagramForm (cid : Cid) (d : Bytes) : encode (datagramForm cid d) = .dgIn cid d := by
  unfold datagramForm
  split
  · next h => exact congrArg (Wire.dgIn cid) (helloBytes_of_isHello h)
  · split <;> rfl

theorem datagramForm_helloBytes (cid : Cid) (x y : Num256) :
    datagramForm cid (helloBytes x y) = .helloDatagram cid x y := by
  have hhello : (isHello (helloBytes x y) && (helloBytes x y).length == 68) = true := by
    rw [helloBytes_eq_keyRecord, isHello, take_keyRecord rfl, length_keyRecord rfl]; rfl
  refine (if_pos hhello).trans ?_
  exact congrArg₂ (Instr.helloDatagram cid) (recordX_keyRecord rfl x y) (recordY_keyRecord rfl x y)

/-- No hello is a whole number of cipher blocks: 68 bytes are not. -/
theorem datagramForm_of_blocks (cid : Cid) {d : Bytes} (h : d.length % 16 = 0) :
    datagramForm cid d = .cipherDatagram cid d := by
  have hne : d.length ≠ 68 := by omega
  simp [datagramForm, hne, h]

theorem decodeDgOut_helloReplyBytes (cid : Cid) (x y : Num256) :
    decodeDgOut cid (helloReplyBytes x y) = .ok (.helloReplyDatagram cid x y) := by
  have hreply : ((helloReplyBytes x y).take 4 == sskBytes && (helloReplyBytes x y).length == 68) = true := by
    rw [helloReplyBytes_eq_keyRecord, take_keyRecord rfl, length_keyRecord rfl]; rfl
  refine (if_pos hreply).trans (congrArg _ ?_)
  exact congrArg₂ (Instr.helloReplyDatagram cid) (recordX_keyRecord rfl x y) (recordY_keyRecord rfl x y)

theorem encode_of_decodeDgOut {cid : Cid} {d : Bytes} {i : Instr} (h : decodeDgOut cid d = .ok i) :
    encode i = .dgOut cid d ∧ WellFormed i = true := by
  unfold decodeDgOut at h
  split at h <;> cases h
  next hreply =>
  simp only [Bool.and_eq_true, beq_iff_eq] at hreply
  refine ⟨congrArg (Wire.dgOut cid) ?_, rfl⟩
  rw [helloReplyBytes_eq_keyRecord, ← hreply.1]
  exact keyRecord_of_parts hreply.2

/-! ## Records on TX (30_encoding.md R101 to R105) -/

theorem decodeTx_hdrFrameBytes (size : Word) : decodeTx (hdrFrameBytes size) = .ok (.hdrFrame size) := by
  simp only [hdrFrameBytes, toLE32, List.cons_append, List.nil_append]
  simp [decodeTx, checkHashBytes, word32_extract]

theorem decodeTx_dataFrameBytes {k : Bytes} (hmin : 1 ≤ k.length) (hmax : k.length ≤ 65535) :
    decodeTx (dataFrameBytes k) = .ok (.dataFrame k) := by
  have hlen := (half16_eq_ofNat_iff _ _ k.length).2 ⟨by omega, rfl, rfl⟩
  simp [decodeTx, dataFrameBytes_eq, checkHashBytes, hmin, hlen]

/-- The four records of TX are all that their reader accepts (R101 to R105). -/
theorem encode_of_decodeTx {b : Bytes} {i : Instr} (h : decodeTx b = .ok i) :
    encode i = .tx b ∧ WellFormed i = true := by
  unfold decodeTx at h
  split at h
  · next hfinal => cases h; exact ⟨congrArg Wire.tx (beq_iff_eq.1 hfinal).symm, rfl⟩
  · split at h
    · cases h; exact ⟨rfl, rfl⟩
    · cases h
      refine ⟨congrArg Wire.tx ?_, rfl⟩
      rw [hdrFrameBytes, toLE32_word32]; rfl
    · next chunk _ =>
      split at h
      · next hlen =>
        obtain ⟨hmin, hlen⟩ := hlen
        cases h
        obtain ⟨hlt, rfl, rfl⟩ := (half16_eq_ofNat_iff _ _ _).1 hlen
        refine ⟨congrArg Wire.tx (dataFrameBytes_eq chunk), ?_⟩
        simp only [WellFormed, Config.chunkMax, Bool.and_eq_true, decide_eq_true_eq]
        omega
      · cases h
    · cases h

/-! ## Every wire form (30_encoding.md R90 to R107) -/

theorem decodeReply_of_fits {r : Bytes} (h : r.length ≤ 66) : decodeReply r = .ok (replyForm r) := if_pos h

theorem decodeDatagram_of_fits (cid : Cid) {d : Bytes} (h : d.length ≤ 1024) :
    decodeDatagram cid d = .ok (datagramForm cid d) := if_pos h

theorem wellFormed_of_isCommand {i : Instr} (hi : i.isCommand = true) : WellFormed i = true := by
  cases i with
  | nop | crc32 | bfpack | bfunpack | bfclear | aesenc | aesencS | aesdec | aesdecS | ecdhgen | ecdhderive
  | ecdhdiscard | xferstart | xferabort | schreset | sreset => rfl
  | _ => cases hi

/-- Every row of the table is read back from its wire form, under its most special name (log 10). -/
theorem decode_encode {i : Instr} (hwf : WellFormed i = true) : decode (encode i) = .ok i.canon := by
  cases i with
  | nop | crc32 | bfpack | bfunpack | bfclear | aesenc | aesencS | aesdec | aesdecS | ecdhgen | ecdhderive
  | ecdhdiscard | xferstart | xferabort | schreset | sreset => exact decode_encode_command rfl
  | rxTimeout | txClose | okReply | trailerFrame | finalAck => rfl
  | rxReply r => exact decodeReply_of_fits (of_decide_eq_true hwf)
  | trailerReply h =>
    have hlen : h.length ≤ 64 := of_decide_eq_true hwf
    have hfits : (okBytes ++ h).length ≤ 66 := by simp [okBytes]; omega
    rw [encode, decode, decodeReply_of_fits hfits, replyForm_okBytes_append, Instr.canon]
  | dgIn cid d => exact decodeDatagram_of_fits cid (of_decide_eq_true hwf)
  | helloDatagram cid x y =>
    have hfits : (helloBytes x y).length ≤ 1024 := by simp [helloBytes, cskBytes]
    rw [encode, decode, decodeDatagram_of_fits cid hfits, datagramForm_helloBytes, Instr.canon]
  | cipherDatagram cid d =>
    simp only [WellFormed, Bool.and_eq_true, decide_eq_true_eq] at hwf
    rw [encode, decode, decodeDatagram_of_fits cid hwf.2, datagramForm_of_blocks cid hwf.1, Instr.canon]
  | hdrFrame size => exact decodeTx_hdrFrameBytes size
  | dataFrame k =>
    simp only [WellFormed, Bool.and_eq_true, decide_eq_true_eq] at hwf
    exact decodeTx_dataFrameBytes hwf.1 hwf.2
  | helloReplyDatagram cid x y => exact decodeDgOut_helloReplyBytes cid x y
  | fileRead o n =>
    simp only [WellFormed, Bool.and_eq_true, decide_eq_true_eq] at hwf
    exact if_pos hwf
  | payload cid d => exact if_pos (of_decide_eq_true hwf)

/-- No decoder drops a bit: each reads only what the encoder writes. -/
theorem encode_of_decode {w : Wire} {i : Instr} (h : decode w = .ok i) :
    encode i = w ∧ WellFormed i = true := by
  cases w with
  | command c =>
    exact ⟨encode_of_decodeCommand h, wellFormed_of_isCommand (isCommand_of_decodeCommand h)⟩
  | rxTimeout | txClose => cases h; exact ⟨rfl, rfl⟩
  | rx r =>
    simp only [decode, decodeReply] at h
    split at h <;> cases h
    exact ⟨encode_replyForm r, (replyForm_event ‹_›).2⟩
  | dgIn cid d =>
    simp only [decode, decodeDatagram] at h
    split at h <;> cases h
    exact ⟨encode_datagramForm cid d, (datagramForm_event cid ‹_›).2⟩
  | tx b => exact encode_of_decodeTx h
  | dgOut cid d => exact encode_of_decodeDgOut h
  | fileRead o n =>
    simp only [decode] at h
    split at h <;> cases h
    exact ⟨rfl, by simpa [WellFormed] using ‹_ ∧ _›⟩
  | payload cid d =>
    simp only [decode] at h
    split at h <;> cases h
    exact ⟨rfl, decide_eq_true ‹_›⟩

/-! ## Hexadecimal digits (30_encoding.md R107) -/

theorem hexVal_eq_some_iff (b : Byte) (x : Nat) : hexVal b = some x ↔
    (0x30 ≤ b.toNat ∧ b.toNat ≤ 0x39 ∧ b.toNat = 0x30 + x) ∨
    (0x41 ≤ b.toNat ∧ b.toNat ≤ 0x46 ∧ b.toNat + 10 = 0x41 + x) ∨
    (0x61 ≤ b.toNat ∧ b.toNat ≤ 0x66 ∧ b.toNat + 10 = 0x61 + x) := by
  unfold hexVal
  split_ifs <;> simp only [Option.some.injEq, false_iff] <;> omega

/-- Two digits stand for a byte, high digit first (30_encoding.md R107). -/
def HexPair (h l b : Byte) : Prop :=
  ∃ x y, hexVal h = some x ∧ hexVal l = some y ∧ b = BitVec.ofNat 8 (16 * x + y)

theorem hexDecode_cons_cons_eq_some_iff (h l : Byte) (rest t : Bytes) :
    hexDecode (h :: l :: rest) = some t ↔ ∃ b u, t = b :: u ∧ HexPair h l b ∧ hexDecode rest = some u := by
  rw [hexDecode]
  simp only [HexPair]
  cases hexVal h <;> cases hexVal l <;> cases hexDecode rest <;> simp [eq_comm]

/-- A digit string decodes to the bytes its pairs of digits stand for (30_encoding.md R107). -/
theorem hexDecode_eq_some_iff (h t : Bytes) : hexDecode h = some t ↔ h.length = 2 * t.length ∧
    ∀ k, k < t.length → HexPair (h.getD (2 * k) 0) (h.getD (2 * k + 1) 0) (t.getD k 0) := by
  induction t generalizing h with
  | nil =>
    match h with
    | [] | [_] => simp [hexDecode]
    | h :: l :: rest => simp [hexDecode_cons_cons_eq_some_iff]
  | cons b u ih =>
    match h with
    | [] => simp [hexDecode]
    | [_] => simp [hexDecode]; omega
    | h :: l :: rest =>
      have hpairs : (∀ k, k < u.length + 1 → HexPair ((h :: l :: rest).getD (2 * k) 0)
            ((h :: l :: rest).getD (2 * k + 1) 0) ((b :: u).getD k 0)) ↔
          HexPair h l b ∧ ∀ k, k < u.length → HexPair (rest.getD (2 * k) 0) (rest.getD (2 * k + 1) 0)
            (u.getD k 0) := Nat.forall_lt_succ_left
      have hlen : rest.length + 1 + 1 = 2 * (u.length + 1) ↔ rest.length = 2 * u.length := by omega
      simp only [hexDecode_cons_cons_eq_some_iff, List.cons.injEq, and_assoc, exists_and_left,
        exists_eq_left', ih, List.length_cons, hpairs, hlen, and_left_comm]

/-- `HexDecode32` (30_encoding.md R107) of a 32-byte string. -/
theorem hexDecode32_eq_some_iff {h t : Bytes} (ht : t.length = 32) : hexDecode32 h = some t ↔
    h.length = 64 ∧ ∀ k, k < 32 → HexPair (h.getD (2 * k) 0) (h.getD (2 * k + 1) 0) (t.getD k 0) := by
  rw [hexDecode32]
  split
  · rw [hexDecode_eq_some_iff, ht]
  · simp [*]

/-! ## What a form of an event does (45_frame_transfer.md R271, 44_secure_channel.md R233) -/

theorem exec_replyForm {r : Bytes} (h : r.length ≤ 66) (s : State) :
    exec (replyForm r) s = .next (s.rxEvent r) := by
  unfold replyForm
  split
  · next hok => rw [beq_iff_eq.1 hok]; rfl
  · split
    · next hok =>
      have hlen : (r.drop 2).length ≤ 64 := by rw [List.length_drop]; omega
      refine (if_pos hlen).trans ?_
      rw [okBytes_append_drop hok]
    · exact if_pos h

theorem exec_datagramForm (cid : Cid) {d : Bytes} (h : d.length ≤ 1024) (s : State) :
    exec (datagramForm cid d) s = .next (s.dgEvent cid d) := by
  unfold datagramForm
  split
  · next hhello => exact congrArg (fun b => Host.Outcome.next (s.dgEvent cid b)) (helloBytes_of_isHello hhello)
  · split <;> exact if_pos h

/-- What a record does depends on its bytes, not on its name (log 10). -/
theorem exec_canon {i : Instr} (hwf : WellFormed i = true) (s : State) : exec i.canon s = exec i s := by
  cases i with
  | rxReply r =>
    have hlen : r.length ≤ 66 := of_decide_eq_true hwf
    exact (exec_replyForm hlen s).trans (if_pos hlen).symm
  | trailerReply h => cases h <;> rfl
  | dgIn cid d =>
    have hlen : d.length ≤ 1024 := of_decide_eq_true hwf
    exact (exec_datagramForm cid hlen s).trans (if_pos hlen).symm
  | _ => rfl

/-- A trailer reply where one is awaited (45_frame_transfer.md R274). -/
theorem exec_trailerReply {s : State} {h : Bytes} (hst : s.xfer.state = .waitTrailerReply)
    (hlen : h.length ≤ 64) : exec (.trailerReply h) s =
      .next (if hexDecode32 h = some s.digest then s.xferDone else s.xferFail .error4) := by
  refine (if_pos hlen).trans (congrArg _ ?_)
  simp [State.rxEvent, hst, startsOk, okBytes, State.hashMatch]

theorem runCommand_of_decode {c : Word} {i : Instr} (h : decodeCommand c = .ok i) (s : State) :
    runCommand c s = exec i s := by
  rw [runCommand, h]

theorem runCommand_of_illegal {c : Word} (h : ¬ ∃ i, decodeCommand c = .ok i) (s : State) :
    runCommand c s = .next s.illegalCommand := by
  cases hdec : decodeCommand c with
  | ok i => exact absurd ⟨i, hdec⟩ h
  | error e => rw [runCommand, hdec]

/-! ## The statements -/

/-- Settles O3: the case split is in `decode_encode`. -/
theorem encodeThenDecodeGivesTheInstruction : Obligations.EncodeThenDecodeGivesTheInstruction :=
  fun _ hwf => decode_encode hwf

/-- Settles O5: the case split is in `encode_of_decode`. -/
theorem decodedWireEncodesBack : Obligations.DecodedWireEncodesBack := fun _ _ h => encode_of_decode h

/-- Settles O4: the canonical name is what the decoder answers (`decode_encode`), so it has the same wire form
and is well-formed (`encode_of_decode`). -/
theorem canonicalNameKeepsBytesAndMeaning : Obligations.CanonicalNameKeepsBytesAndMeaning := by
  intro i s hwf
  obtain ⟨hbytes, hcanon⟩ := encode_of_decode (decode_encode hwf)
  exact ⟨hbytes, hcanon, exec_canon hwf s⟩

/-- Settles O44: `HashMatch` by pairs of digits (`hexDecode32_eq_some_iff`). -/
theorem trailerReplyIsCheckedAgainstTheDigest : Obligations.TrailerReplyIsCheckedAgainstTheDigest := by
  refine ⟨hexVal_eq_some_iff, fun s h hst hlen => ?_⟩
  have hdigits := hexDecode32_eq_some_iff (h := h) s.length_digest
  rw [exec_trailerReply hst hlen]
  refine ⟨fun hmatch => ?_, fun hother => ?_⟩
  · rw [if_pos (hdigits.2 hmatch), State.xferDone, finalAckBytes, checkHashBytes, State.emit, State.emit]
    simp
  · rw [if_neg fun h => hother (hdigits.1 h)]; rfl

/-- Settles O2: the three conditions say when the decoder answers no command (`exists_decodeCommand_iff`). -/
theorem commandWordIsIllegalExactlyAsR91Says : Obligations.CommandWordIsIllegalExactlyAsR91Says := by
  intro c s
  have hlegal := exists_decodeCommand_iff c
  refine ⟨fun hillegal => runCommand_of_illegal (fun h => hlegal.1 h hillegal) s, fun h => ?_⟩
  obtain ⟨i, hdec⟩ := hlegal.2 h
  exact ⟨i, encode_of_decodeCommand hdec, runCommand_of_decode hdec s⟩

/-- Settles O1: the words are those the encoder gives the sixteen commands. -/
theorem commandWordsDecode : Obligations.CommandWordsDecode := by
  have h (i : Instr) (hi : i.isCommand = true) : decode (encode i) = .ok i := decode_encode_command hi
  exact ⟨h .nop rfl, h .crc32 rfl, h .bfpack rfl, h .bfunpack rfl, h .bfclear rfl, h .aesenc rfl,
    h .aesencS rfl, h .aesdec rfl, h .aesdecS rfl, h .ecdhgen rfl, h .ecdhderive rfl,
    h .ecdhdiscard rfl, h .xferstart rfl, h .xferabort rfl, h .schreset rfl, h .sreset rfl⟩

end Sys2Proof.Machine
end

section
/-! PROOFS. The CRC unit (40_crc32.md): the loop of R132 is linear, and a bit that has not yet reached position 0
only moves. From these two facts come the table form of R133 and the residue of R135. -/

namespace Sys2Proof.Machine

/-! ## Repetitions of the loop body (40_crc32.md R132) -/

@[simp] theorem crcBits_zero (c : Word) : crcBits 0 c = c := rfl

theorem crcBits_succ (n : Nat) (c : Word) : crcBits (n + 1) c = crcBits n (crcBit c) := rfl

theorem crcBits_add (m n : Nat) (c : Word) : crcBits (m + n) c = crcBits n (crcBits m c) := by
  induction m generalizing c with
  | zero => rw [Nat.zero_add, crcBits_zero]
  | succ m ih => rw [Nat.succ_add, crcBits_succ, crcBits_succ, ih]

theorem crcBit_of_even {c : Word} (h : c.getLsbD 0 = false) : crcBit c = c >>> 1 :=
  if_neg (by rw [h]; exact Bool.false_ne_true)

theorem crcBit_of_odd {c : Word} (h : c.getLsbD 0 = true) : crcBit c = (c >>> 1) ^^^ 0xEDB88320 := if_pos h

/-- The polynomial is folded in once or not at all where bit 0 of one of the two is set, and twice where both are. -/
theorem crcBit_xor (c d : Word) : crcBit (c ^^^ d) = crcBit c ^^^ crcBit d := by
  have hbit : (c ^^^ d).getLsbD 0 = (c.getLsbD 0 ^^ d.getLsbD 0) := BitVec.getLsbD_xor
  have hshift : (c ^^^ d) >>> 1 = (c >>> 1) ^^^ (d >>> 1) := BitVec.ushiftRight_xor_distrib c d 1
  cases hc : c.getLsbD 0 <;> cases hd : d.getLsbD 0 <;> rw [hc, hd] at hbit
  · rw [crcBit_of_even hbit, crcBit_of_even hc, crcBit_of_even hd, hshift]
  · rw [crcBit_of_odd hbit, crcBit_of_even hc, crcBit_of_odd hd, hshift, BitVec.xor_assoc]
  · rw [crcBit_of_odd hbit, crcBit_of_odd hc, crcBit_of_even hd, hshift]; ac_rfl
  · rw [crcBit_of_even hbit, crcBit_of_odd hc, crcBit_of_odd hd, hshift, BitVec.xor_comm (d >>> 1),
      ← BitVec.xor_assoc, xor_cancel_right]

/-- The loop is linear. -/
theorem crcBits_xor (n : Nat) (c d : Word) : crcBits n (c ^^^ d) = crcBits n c ^^^ crcBits n d := by
  induction n generalizing c d with
  | zero => rfl
  | succ n ih => rw [crcBits_succ, crcBit_xor, ih]; rfl

/-- As long as bit 0 is clear the loop only shifts. -/
theorem crcBits_of_low_zero {n : Nat} {c : Word} (h : ∀ i < n, c.getLsbD i = false) : crcBits n c = c >>> n := by
  induction n generalizing c with
  | zero => exact (BitVec.ushiftRight_zero c).symm
  | succ n ih =>
    have hlow : ∀ i < n, (c >>> 1).getLsbD i = false := fun i hi => by
      rw [BitVec.getLsbD_ushiftRight]; exact h (1 + i) (by omega)
    rw [crcBits_succ, crcBit_of_even (h 0 n.succ_pos), ih hlow, Nat.add_comm n 1, BitVec.shiftRight_add]

/-! ## A byte of the register at a time (40_crc32.md R133) -/

/-- The byte at bits 7:0, as the mask of R133 takes it. -/
theorem and_255_eq_lowByte (v : Word) : v &&& 0x000000FF = (v.extractLsb' 0 8).setWidth 32 := by
  refine BitVec.eq_of_toNat_eq ?_
  have hmod : v.toNat &&& 2 ^ 8 - 1 = v.toNat % 2 ^ 8 := Nat.and_two_pow_sub_one_eq_mod v.toNat 8
  rw [BitVec.toNat_and, BitVec.toNat_setWidth_of_le (by decide), BitVec.extractLsb'_toNat, Nat.shiftRight_zero]
  exact hmod

theorem setWidth_byte_shiftRight_eight (b : Byte) : (b.setWidth 32 : Word) >>> 8 = 0#32 := by
  refine BitVec.eq_of_toNat_eq ?_
  rw [BitVec.toNat_ushiftRight, BitVec.toNat_setWidth_of_le (by decide), Nat.shiftRight_eq_div_pow]
  exact Nat.div_eq_of_lt b.isLt

/-- Eight steps bring the upper three bytes down and replace the low one by its table entry. -/
theorem crcBits_eight (v : Word) :
    crcBits 8 v = (v >>> 8) ^^^ crcBits 8 ((v.extractLsb' 0 8).setWidth 32) := by
  have hlow : ∀ i < 8, (v ^^^ (v.extractLsb' 0 8).setWidth 32).getLsbD i = false := fun i hi => by
    simp [hi]; omega
  have hupper := crcBits_of_low_zero hlow
  rw [crcBits_xor, BitVec.ushiftRight_xor_distrib, setWidth_byte_shiftRight_eight, BitVec.xor_zero] at hupper
  rw [← hupper, xor_cancel_right]

/-! ## A word of the message at a time (40_crc32.md R135) -/

/-- A word xored into the register gives up its low byte to the byte that enters, and the rest moves down. -/
theorem crcByte_xor_lowByte (r v : Word) :
    crcByte (r ^^^ v) (v.extractLsb' 0 8) = crcBits 8 r ^^^ (v >>> 8) := by
  rw [crcByte, crcBits_xor, crcBits_xor, crcBits_eight v, ← BitVec.xor_assoc, xor_cancel_right]

/-- The four bytes of a word pass through the loop as the word. -/
theorem foldl_crcByte_toLE32 (c w : Word) : (toLE32 w).foldl crcByte c = crcBits 32 (c ^^^ w) := by
  have hbyte (k : Nat) : w.extractLsb' k 8 = (w >>> k).extractLsb' 0 8 := rfl
  have hgone : w >>> 32 = 0#32 := BitVec.ushiftRight_eq_zero le_rfl
  simp only [toLE32, List.foldl_cons, List.foldl_nil]
  rw [hbyte 8, hbyte 16, hbyte 24]
  -- The register holds `c ^^^ w` with `w` xored in, and each byte takes its part of that `w` away.
  conv_lhs => rw [← xor_cancel_right c w]
  simp only [crcByte_xor_lowByte, ← crcBits_add, ← BitVec.shiftRight_add, Nat.reduceAdd, hgone, BitVec.xor_zero]

theorem crcBits_32_allOnes : crcBits 32 0xFFFFFFFF = 0xDEBB20E3 := by simp [crcBits_succ, crcBit]

/-! ## The command (40_crc32.md R134) -/

/-- `CRC32` of a range inside LMEM. -/
theorem exec_crc32_of_fits {s : State} (h : s.arg0.toNat + s.arg1.toNat ≤ s.params.lmemSize) :
    exec .crc32 s = .next (s.completeOk (crc32 s.sourceBytes) 0) :=
  State.checked_of_pass _ (by simpa [State.crc32Checks] using h)

/-- `CRC32` of a range reaching past LMEM. -/
theorem exec_crc32_of_not_fits {s : State} (h : s.params.lmemSize < s.arg0.toNat + s.arg1.toNat) :
    exec .crc32 s = .next (s.errorCompletion .errAddr) :=
  State.checked_of_fail _ (by simpa [State.crc32Checks, State.inRange] using h)

/-! ## The statements -/

/-- Settles O21: of `c ^^^ b` the byte at bits 7:0 is looked up, and the upper three, which move down, are those of
`c` (`crcBits_eight`). -/
theorem crcTableForm : Obligations.CrcTableForm := by
  refine ⟨fun c b => ?_, by decide⟩
  rw [crcByte, crcBits_eight, and_255_eq_lowByte, BitVec.ushiftRight_xor_distrib, setWidth_byte_shiftRight_eight,
    BitVec.xor_zero]

/-- Settles O22: the CRC's own four bytes cancel the register they enter, up to the final inversion
(`foldl_crcByte_toLE32`), so what is left of it does not depend on the string. -/
theorem crcResidue : Obligations.CrcResidue := by
  intro b
  have hcancel : b.foldl crcByte 0xFFFFFFFF ^^^ crc32 b = 0xFFFFFFFF := by
    rw [crc32, xor_cancel_left]
  rw [crc32, List.foldl_append, foldl_crcByte_toLE32, hcancel, crcBits_32_allOnes]
  rfl

/-- Settles O20: the two sides of the range check. -/
theorem crc32ReportsTheCrcOfTheRange : Obligations.Crc32ReportsTheCrcOfTheRange :=
  ⟨fun _ h => exec_crc32_of_fits h, fun _ h => exec_crc32_of_not_fits h, rfl⟩

end Sys2Proof.Machine
end

section
/-! PROOFS. The bit-field unit (41_bitfield.md): its checks, of the operands first and then of the addresses (R152);
a word of LMEM written twice apart; and a field packed into a word and read out of it, bit by bit (R151, R153,
R154). -/

namespace Sys2Proof.Machine

/-! ## Checks of one code followed by checks of another (60_exceptions.md R346) -/

/-- Where every check reports the same code, that code is the one reported. -/
theorem firstFailure_of_common_code {xs : List Check} {c : Code} (hcode : ∀ x ∈ xs, x.2 = c)
    (hfail : ¬ ∀ x ∈ xs, x.1 = true) : firstFailure xs = some c := by
  cases h : firstFailure xs with
  | none => exact absurd (firstFailure_eq_none.1 h) hfail
  | some d =>
    obtain ⟨x, hx, rfl⟩ := List.mem_map.1 (firstFailure_mem h)
    rw [hcode x hx]

theorem State.checked_append_of_first_fails {s : State} {xs ys : List Check} {success : Result} {c : Code}
    (hcode : ∀ x ∈ xs, x.2 = c) (hfail : ¬ ∀ x ∈ xs, x.1 = true) :
    s.checked (xs ++ ys) success = .next (s.errorCompletion c) :=
  State.checked_of_fail _ (by rw [firstFailure_append, firstFailure_of_common_code hcode hfail, Option.some_or])

theorem State.checked_append_of_second_fails {s : State} {xs ys : List Check} {success : Result} {c : Code}
    (hpass : ∀ x ∈ xs, x.1 = true) (hcode : ∀ y ∈ ys, y.2 = c) (hfail : ¬ ∀ y ∈ ys, y.1 = true) :
    s.checked (xs ++ ys) success = .next (s.errorCompletion c) :=
  State.checked_of_fail _ (by
    rw [firstFailure_append, firstFailure_eq_none.2 hpass, Option.none_or, firstFailure_of_common_code hcode hfail])

/-- A command that ends with `OK` has passed its checks, and its success case is what it did. -/
theorem State.of_checked_ok {s t u : State} {checks : List Check} (hcode : ∀ x ∈ checks, x.2 ≠ .ok)
    (hrun : s.checked checks (.next u) = .next t) (hok : t.code = .ok) :
    (∀ x ∈ checks, x.1 = true) ∧ u = t := by
  obtain ⟨c, hc, heq⟩ | ⟨hpass, heq⟩ := s.checked_cases checks (.next u)
  · cases heq.symm.trans hrun
    obtain ⟨x, hx, hxc⟩ := List.mem_map.1 (firstFailure_mem hc)
    exact absurd (hxc.trans hok) (hcode x hx)
  · cases heq.symm.trans hrun
    exact ⟨hpass, rfl⟩

/-! ## The checks of the bit-field commands (41_bitfield.md R152) -/

/-- A descriptor that passes steps 2 to 5 of R152. -/
def State.LegalDescriptor (s : State) : Prop :=
  s.arg1.toNat / 65536 = 0 ∧ s.bitPos ≤ 31 ∧ (1 ≤ s.bitLen ∧ s.bitLen ≤ 32) ∧ s.bitPos + s.bitLen ≤ 32

/-- Record, mask buffer and word pass steps 7 to 9 of R152. -/
def State.PackAddrsInRange (s : State) : Prop :=
  s.recordInRange = true ∧ s.maskInRange = true ∧ s.wordInRecord = true

/-- Steps 2 to 6 of R152, which report `ERR_ARG`. -/
def State.packArgChecks (s : State) : List Check := s.descriptorChecks ++ [(s.regionsApart, .errArg)]

/-- Steps 7 to 9 of R152, which report `ERR_ADDR`. -/
def State.packAddrChecks (s : State) : List Check :=
  [(s.recordInRange, .errAddr), (s.maskInRange, .errAddr), (s.wordInRecord, .errAddr)]

section
variable {s : State}

theorem State.recordInRange_eq_true :
    s.recordInRange = true ↔ s.bf.recBase.toNat + s.bf.recSize.toNat ≤ s.params.lmemSize :=
  s.inRange_eq_true _ _

theorem State.maskInRange_eq_true :
    s.maskInRange = true ↔ s.bf.maskBase.toNat + s.bf.recSize.toNat ≤ s.params.lmemSize :=
  s.inRange_eq_true _ _

theorem State.wordInRecord_eq_true : s.wordInRecord = true ↔ s.arg0.toNat + 4 ≤ s.bf.recSize.toNat :=
  decide_eq_true_iff

theorem State.regionsApart_eq_true : s.regionsApart = true ↔ s.bf.recSize = 0 ∨
    s.bf.recBase.toNat + s.bf.recSize.toNat ≤ s.bf.maskBase.toNat ∨
    s.bf.maskBase.toNat + s.bf.recSize.toNat ≤ s.bf.recBase.toNat := by
  simp [State.regionsApart, or_assoc]

/-- An empty region lies before or after any other. -/
theorem State.regions_disjoint (h : s.regionsApart = true) :
    s.bf.recBase.toNat + s.bf.recSize.toNat ≤ s.bf.maskBase.toNat ∨
      s.bf.maskBase.toNat + s.bf.recSize.toNat ≤ s.bf.recBase.toNat := by
  obtain hempty | hdisjoint := State.regionsApart_eq_true.1 h
  · have hzero : s.bf.recSize.toNat = 0 := by rw [hempty]; rfl
    omega
  · exact hdisjoint

theorem State.legalDescriptor_iff : s.LegalDescriptor ↔ ¬ (s.arg1.toNat / 65536 ≠ 0 ∨
    31 < s.arg1.toNat % 256 ∨ s.arg1.toNat / 256 % 256 = 0 ∨ 32 < s.arg1.toNat / 256 % 256 ∨
    32 < s.arg1.toNat % 256 + s.arg1.toNat / 256 % 256) := by
  rw [State.LegalDescriptor, State.bitPos_eq, State.bitLen_eq]
  omega

/-- A descriptor written as `pos + 256 * len` (30_encoding.md R94). -/
theorem State.legalDescriptor_of_arg1 {pos len : Nat} (harg : s.arg1.toNat = pos + 256 * len) (hpos : pos ≤ 31)
    (hlen : 1 ≤ len) (hend : pos + len ≤ 32) : s.LegalDescriptor ∧ s.bitPos = pos ∧ s.bitLen = len := by
  rw [State.LegalDescriptor, State.bitPos_eq, State.bitLen_eq]
  omega

theorem State.descriptorChecks_pass_iff : (∀ x ∈ s.descriptorChecks, x.1 = true) ↔ s.LegalDescriptor := by
  have hreserved : s.arg1.extractLsb' 16 16 = 0 ↔ s.arg1.toNat / 65536 = 0 := by
    have hlt : s.arg1.toNat < 65536 * 65536 := s.arg1.isLt
    rw [← BitVec.toNat_inj, BitVec.extractLsb'_toNat, Nat.shiftRight_eq_div_pow,
      Nat.mod_eq_of_lt (Nat.div_lt_of_lt_mul hlt)]
    rfl
  simp only [State.descriptorChecks, List.forall_mem_cons, List.not_mem_nil, false_imp_iff, implies_true, and_true,
    beq_iff_eq, Bool.and_eq_true, decide_eq_true_eq, hreserved, State.LegalDescriptor]

theorem State.packArgChecks_pass_iff :
    (∀ x ∈ s.packArgChecks, x.1 = true) ↔ s.LegalDescriptor ∧ s.regionsApart = true := by
  rw [State.packArgChecks, List.forall_mem_append, State.descriptorChecks_pass_iff, List.forall_mem_singleton]

theorem State.packAddrChecks_pass_iff : (∀ x ∈ s.packAddrChecks, x.1 = true) ↔ s.PackAddrsInRange := by
  simp [State.packAddrChecks, State.PackAddrsInRange]

theorem State.descriptorChecks_code : ∀ x ∈ s.descriptorChecks, x.2 = .errArg := by simp [State.descriptorChecks]

theorem State.packArgChecks_code : ∀ x ∈ s.packArgChecks, x.2 = .errArg := by
  simp [State.packArgChecks, State.descriptorChecks]

theorem State.packAddrChecks_code : ∀ x ∈ s.packAddrChecks, x.2 = .errAddr := by simp [State.packAddrChecks]

end

/-! ## The commands, by their checks (41_bitfield.md R152 to R155) -/

/-- What `BFPACK` makes of a state that passes its checks (R153). -/
def State.packed (s : State) : State :=
  ((s.memWrite s.recWordAddr (toLE32 s.packedWord)).memWrite s.maskWordAddr (toLE32 s.packedMask)).completeOk
    s.packedWord s.packedMask

/-- What `BFCLEAR` makes of a state that passes its checks (R155). -/
def State.cleared (s : State) : State :=
  ((s.memWrite s.bf.recBase.toNat (zeros s.bf.recSize.toNat)).memWrite s.bf.maskBase.toNat
    (zeros s.bf.recSize.toNat)).completeOk 0 0

section
variable {s t : State}

theorem exec_bfpack_eq (s : State) :
    exec .bfpack s = s.checked (s.packArgChecks ++ s.packAddrChecks) (.next s.packed) := rfl

theorem exec_bfpack_of_badArgs (h : ¬ (s.LegalDescriptor ∧ s.regionsApart = true)) :
    exec .bfpack s = .next (s.errorCompletion .errArg) := by
  rw [exec_bfpack_eq]
  exact State.checked_append_of_first_fails State.packArgChecks_code (mt State.packArgChecks_pass_iff.1 h)

theorem exec_bfpack_of_badAddrs (hargs : s.LegalDescriptor ∧ s.regionsApart = true) (h : ¬ s.PackAddrsInRange) :
    exec .bfpack s = .next (s.errorCompletion .errAddr) := by
  rw [exec_bfpack_eq]
  exact State.checked_append_of_second_fails (State.packArgChecks_pass_iff.2 hargs) State.packAddrChecks_code
    (mt State.packAddrChecks_pass_iff.1 h)

theorem exec_bfpack_of_legal (hargs : s.LegalDescriptor ∧ s.regionsApart = true) (haddrs : s.PackAddrsInRange) :
    exec .bfpack s = .next s.packed := by
  rw [exec_bfpack_eq]
  exact State.checked_of_pass _ (List.forall_mem_append.2
    ⟨State.packArgChecks_pass_iff.2 hargs, State.packAddrChecks_pass_iff.2 haddrs⟩)

/-- What is known of a `BFPACK` that has ended with `OK`. -/
theorem of_exec_bfpack_ok (hrun : exec .bfpack s = .next t) (hok : t.code = .ok) :
    ((s.LegalDescriptor ∧ s.regionsApart = true) ∧ s.PackAddrsInRange) ∧ s.packed = t := by
  rw [exec_bfpack_eq] at hrun
  obtain ⟨hpass, heq⟩ := State.of_checked_ok (by simp [State.packArgChecks, State.descriptorChecks,
    State.packAddrChecks]) hrun hok
  obtain ⟨hargs, haddrs⟩ := List.forall_mem_append.1 hpass
  exact ⟨⟨State.packArgChecks_pass_iff.1 hargs, State.packAddrChecks_pass_iff.1 haddrs⟩, heq⟩

theorem exec_bfunpack_of_badArgs (h : ¬ s.LegalDescriptor) :
    exec .bfunpack s = .next (s.errorCompletion .errArg) :=
  State.checked_append_of_first_fails State.descriptorChecks_code (mt State.descriptorChecks_pass_iff.1 h)

theorem exec_bfunpack_of_badAddrs (hdesc : s.LegalDescriptor)
    (h : ¬ (s.recordInRange = true ∧ s.wordInRecord = true)) :
    exec .bfunpack s = .next (s.errorCompletion .errAddr) :=
  State.checked_append_of_second_fails (State.descriptorChecks_pass_iff.2 hdesc) (by simp) (by simpa using h)

theorem exec_bfunpack_of_legal (hdesc : s.LegalDescriptor) (hrec : s.recordInRange = true)
    (hword : s.wordInRecord = true) : exec .bfunpack s =
      .next (s.completeOk (unpackWord s.bitPos s.bitLen (s.wordAt s.recWordAddr)) 0) :=
  State.checked_of_pass _ (List.forall_mem_append.2
    ⟨State.descriptorChecks_pass_iff.2 hdesc, by simp [hrec, hword]⟩)

theorem exec_bfclear_of_overlap (h : ¬ s.regionsApart = true) :
    exec .bfclear s = .next (s.errorCompletion .errArg) :=
  State.checked_of_fail _ (by simp [State.bfclearChecks, h])

theorem exec_bfclear_of_badAddrs (hapart : s.regionsApart = true)
    (h : ¬ (s.recordInRange = true ∧ s.maskInRange = true)) :
    exec .bfclear s = .next (s.errorCompletion .errAddr) :=
  State.checked_append_of_second_fails (xs := [(s.regionsApart, .errArg)]) (by simpa using hapart) (by simp)
    (by simpa using h)

theorem exec_bfclear_of_legal (hapart : s.regionsApart = true) (hrec : s.recordInRange = true)
    (hmask : s.maskInRange = true) : exec .bfclear s = .next s.cleared :=
  State.checked_of_pass _ (by simp [State.bfclearChecks, hapart, hrec, hmask])

end

/-! ## A write of two byte strings (41_bitfield.md R153, R155) -/

theorem State.lmemSameOutsideTwo_memWrite (s : State) (a c : Nat) {x y : Bytes} {n : Nat} (r0 r1 : Word)
    (hx : x.length = n) (hy : y.length = n) :
    LmemSameOutsideTwo s (((s.memWrite a x).memWrite c y).completeOk r0 r1) a c n := by
  intro b ha hc
  rw [State.byteAt_completeOk, State.byteAt_memWrite, hy, if_neg hc, State.byteAt_memWrite, hx, if_neg ha]

/-- A word in each of two regions that do not overlap, at the same offset of both. -/
theorem State.recWord_maskWord_apart {s : State} (hapart : s.regionsApart = true) (hword : s.wordInRecord = true) :
    s.recWordAddr + 4 ≤ s.maskWordAddr ∨ s.maskWordAddr + 4 ≤ s.recWordAddr := by
  have hdisjoint := State.regions_disjoint hapart
  have hinside := State.wordInRecord_eq_true.1 hword
  rw [State.recWordAddr, State.maskWordAddr]
  omega

theorem State.packed_maskWord (s : State) : s.packed.wordAt s.maskWordAddr = s.packedMask := by
  rw [State.packed, State.wordAt_completeOk, State.wordAt_memWrite_same]

theorem State.packed_recWord {s : State} (hapart : s.regionsApart = true) (hword : s.wordInRecord = true) :
    s.packed.wordAt s.recWordAddr = s.packedWord := by
  rw [State.packed, State.wordAt_completeOk,
    State.wordAt_memWrite_apart _ _ _ _ (State.recWord_maskWord_apart hapart hword).symm, State.wordAt_memWrite_same]

theorem State.packed_lmemSameOutsideTwo (s : State) :
    LmemSameOutsideTwo s s.packed s.recWordAddr s.maskWordAddr 4 :=
  s.lmemSameOutsideTwo_memWrite _ _ _ _ rfl rfl

/-- `MemRead` of the zeros just written (20_memory.md R61). -/
theorem State.memRead_memWrite_zeros (s : State) (a n : Nat) : (s.memWrite a (zeros n)).memRead a n = zeros n := by
  have hread := s.memRead_memWrite_same a (zeros n)
  rwa [length_zeros] at hread

theorem State.cleared_mask (s : State) :
    s.cleared.memRead s.bf.maskBase.toNat s.bf.recSize.toNat = zeros s.bf.recSize.toNat := by
  rw [State.cleared, State.memRead_completeOk, State.memRead_memWrite_zeros]

theorem State.cleared_record {s : State} (hapart : s.regionsApart = true) :
    s.cleared.memRead s.bf.recBase.toNat s.bf.recSize.toNat = zeros s.bf.recSize.toNat := by
  have hdisjoint := (State.regions_disjoint hapart).symm
  rw [State.cleared, State.memRead_completeOk,
    State.memRead_memWrite_apart _ _ _ _ _ (by rwa [length_zeros]), State.memRead_memWrite_zeros]

theorem State.cleared_lmemSameOutsideTwo (s : State) :
    LmemSameOutsideTwo s s.cleared s.bf.recBase.toNat s.bf.maskBase.toNat s.bf.recSize.toNat :=
  s.lmemSameOutsideTwo_memWrite _ _ _ _ (length_zeros _) (length_zeros _)

/-! ## The field of a word (41_bitfield.md R151, R153, R154) -/

theorem fieldMask_eq (pos len : Nat) : fieldMask pos len = BitVec.ofNat 32 ((2 ^ len - 1) * 2 ^ pos) := by
  rw [fieldMask, Nat.shiftLeft_eq]

theorem getLsbD_packWord (pos len : Nat) (w v : Word) {j : Nat} (hj : j < 32) :
    (packWord pos len w v).getLsbD j =
      (w.getLsbD j && !decide (pos ≤ j ∧ j < pos + len) || !decide (j < pos) && v.getLsbD (j - pos)) := by
  simp only [packWord, BitVec.getLsbD_or, BitVec.getLsbD_and, BitVec.getLsbD_not, BitVec.getLsbD_shiftLeft,
    getLsbD_fieldMask pos len j hj, hj, decide_true, Bool.true_and]

theorem getLsbD_packMask (pos len : Nat) (m : Word) {j : Nat} (hj : j < 32) :
    (packMask pos len m).getLsbD j = (m.getLsbD j || decide (pos ≤ j ∧ j < pos + len)) := by
  rw [packMask, BitVec.getLsbD_or, getLsbD_fieldMask pos len j hj]

theorem getLsbD_unpackWord (pos len : Nat) (w : Word) {j : Nat} (hj : j < 32) :
    (unpackWord pos len w).getLsbD j = (w.getLsbD (pos + j) && decide (j < len)) := by
  simp only [unpackWord, BitVec.getLsbD_and, BitVec.getLsbD_ushiftRight, BitVec.getLsbD_ofNat,
    Nat.testBit_two_pow_sub_one, hj, decide_true, Bool.true_and]

/-- The field as a number. -/
theorem toNat_unpackWord {len : Nat} (hlen : len ≤ 32) (pos : Nat) (w : Word) :
    (unpackWord pos len w).toNat = w.toNat / 2 ^ pos % 2 ^ len := by
  have hmask : 2 ^ len - 1 < 2 ^ 32 :=
    (Nat.sub_lt (Nat.two_pow_pos len) one_pos).trans_le (Nat.pow_le_pow_right two_pos hlen)
  rw [unpackWord, BitVec.toNat_and, BitVec.toNat_ushiftRight, BitVec.toNat_ofNat, Nat.mod_eq_of_lt hmask,
    Nat.and_two_pow_sub_one_eq_mod, Nat.shiftRight_eq_div_pow]

/-- A field read back is what was packed, cut to the field's length (R156): the old bits are cleared, and what
the unmasked value sets above the field (R157) is not read. -/
theorem unpackWord_packWord {pos len : Nat} (hend : pos + len ≤ 32) (w v : Word) :
    unpackWord pos len (packWord pos len w v) = unpackWord 0 len v := by
  refine BitVec.eq_of_getLsbD_eq fun j hj => ?_
  rw [getLsbD_unpackWord _ _ _ hj, getLsbD_unpackWord _ _ _ hj]
  by_cases hfield : j < len
  · rw [getLsbD_packWord _ _ _ _ (by omega)]
    simp [hfield]
  · simp [hfield]

/-- Outside the field a value that fits leaves each bit of the record word (R158). -/
theorem getLsbD_packWord_outside {pos len j : Nat} (w : Word) {v : Word} (hfits : v.toNat < 2 ^ len) (hj : j < 32)
    (hout : ¬ (pos ≤ j ∧ j < pos + len)) : (packWord pos len w v).getLsbD j = w.getLsbD j := by
  have hnone : (!decide (j < pos) && v.getLsbD (j - pos)) = false := by
    by_cases hbelow : j < pos
    · simp [hbelow]
    · have hpow : 2 ^ len ≤ 2 ^ (j - pos) := Nat.pow_le_pow_right two_pos (by omega)
      rw [show v.getLsbD (j - pos) = false from Nat.testBit_lt_two_pow (hfits.trans_le hpow), Bool.and_false]
  rw [getLsbD_packWord _ _ _ _ hj, hnone]
  simp [hout]

/-! ## The statements -/

/-- Settles O23: each command's checks are operand checks followed by address checks. -/
theorem bitFieldChecksInOrder : Obligations.BitFieldChecksInOrder := by
  intro s pos len rb mb sz badDesc overlap recOut maskOut wordOut
  have hdesc : s.LegalDescriptor ↔ ¬ badDesc := State.legalDescriptor_iff
  have hapart : s.regionsApart = true ↔ ¬ overlap := by
    rw [State.regionsApart_eq_true, ← BitVec.toNat_inj]
    show sz = 0 ∨ rb + sz ≤ mb ∨ mb + sz ≤ rb ↔ ¬ (sz ≠ 0 ∧ mb < rb + sz ∧ rb < mb + sz)
    omega
  have hrec : s.recordInRange = true ↔ ¬ recOut := State.recordInRange_eq_true.trans not_lt.symm
  have hmask : s.maskInRange = true ↔ ¬ maskOut := State.maskInRange_eq_true.trans not_lt.symm
  have hword : s.wordInRecord = true ↔ ¬ wordOut := State.wordInRecord_eq_true.trans not_lt.symm
  refine ⟨fun h => exec_bfpack_of_badArgs fun ⟨hd, ha⟩ => h.elim (hdesc.1 hd) (hapart.1 ha),
    fun hargs h => ?_, fun h => exec_bfunpack_of_badArgs fun hd => hdesc.1 hd h,
    fun hd h => exec_bfunpack_of_badAddrs (hdesc.2 hd) fun ⟨hr, hw⟩ => h.elim (hrec.1 hr) (hword.1 hw),
    fun h => exec_bfclear_of_overlap fun ha => hapart.1 ha h,
    fun ha h => exec_bfclear_of_badAddrs (hapart.2 ha) fun ⟨hr, hm⟩ => h.elim (hrec.1 hr) (hmask.1 hm)⟩
  obtain ⟨hd, ha⟩ := not_or.1 hargs
  refine exec_bfpack_of_badAddrs ⟨hdesc.2 hd, hapart.2 ha⟩ fun ⟨hr, hm, hw⟩ => ?_
  exact h.elim (hrec.1 hr) fun h => h.elim (hmask.1 hm) (hword.1 hw)

/-- Settles O24: the two words written, in the statement's spelling of the field mask. -/
theorem bfpackWritesFieldAndMask : Obligations.BfpackWritesFieldAndMask := by
  intro s pos len harg hpos hlen hend hdisjoint hrec hmask hword fm ra ma
  obtain ⟨hdesc, hbitPos, hbitLen⟩ := State.legalDescriptor_of_arg1 harg hpos hlen hend
  have hapart : s.regionsApart = true := State.regionsApart_eq_true.2 (.inr hdisjoint)
  have hinRecord : s.wordInRecord = true := State.wordInRecord_eq_true.2 hword
  have haddrs : s.PackAddrsInRange :=
    ⟨State.recordInRange_eq_true.2 hrec, State.maskInRange_eq_true.2 hmask, hinRecord⟩
  have hrecWord : s.packed.wordAt ra = s.packedWord := State.packed_recWord hapart hinRecord
  have hmaskWord : s.packed.wordAt ma = s.packedMask := s.packed_maskWord
  refine ⟨s.packed, exec_bfpack_of_legal ⟨hdesc, hapart⟩ haddrs, rfl, rfl, ?_, hrecWord.symm, ?_, hmaskWord.symm,
    s.packed_lmemSameOutsideTwo⟩
  · rw [hrecWord, State.packedWord, hbitPos, hbitLen, packWord, fieldMask_eq]; rfl
  · rw [hmaskWord, State.packedMask, hbitPos, hbitLen, packMask, fieldMask_eq]; rfl

/-- Settles O25: the field as a number, in the statement's spelling. -/
theorem bfunpackReadsTheField : Obligations.BfunpackReadsTheField := by
  intro s pos len harg hpos hlen hend hrec hword
  obtain ⟨hdesc, hbitPos, hbitLen⟩ := State.legalDescriptor_of_arg1 harg hpos hlen hend
  rw [exec_bfunpack_of_legal hdesc (State.recordInRange_eq_true.2 hrec) (State.wordInRecord_eq_true.2 hword),
    hbitPos, hbitLen, word_eq_of_toNat (toNat_unpackWord (by omega) pos (s.wordAt s.recWordAddr))]
  rfl

/-- Settles O26: the mask buffer is written last, and apart from the record. -/
theorem bfclearZeroesBothRegions : Obligations.BfclearZeroesBothRegions := by
  intro s hdisjoint hrec hmask
  have hapart : s.regionsApart = true := State.regionsApart_eq_true.2 hdisjoint
  exact ⟨s.cleared,
    exec_bfclear_of_legal hapart (State.recordInRange_eq_true.2 hrec) (State.maskInRange_eq_true.2 hmask),
    rfl, rfl, rfl, rfl, State.cleared_record hapart, s.cleared_mask, s.cleared_lmemSameOutsideTwo⟩

/-- Settles O27: `BFPACK` keeps operands and configuration, so `BFUNPACK` passes its checks too and reads the word
just written (`unpackWord_packWord`). -/
theorem bitFieldRoundTrip : Obligations.BitFieldRoundTrip := by
  intro s t u hpack hok hunpack
  obtain ⟨⟨⟨hdesc, hapart⟩, hrec, -, hword⟩, rfl⟩ := of_exec_bfpack_ok hpack hok
  have ⟨_, _, ⟨_, hlen⟩, hend⟩ := hdesc
  have hread : exec .bfunpack s.packed =
      .next (s.packed.completeOk (unpackWord s.bitPos s.bitLen (s.packed.wordAt s.recWordAddr)) 0) :=
    exec_bfunpack_of_legal (s := s.packed) hdesc hrec hword
  cases hread.symm.trans hunpack
  refine ⟨rfl, ?_⟩
  rw [State.completeOk_res0, State.packed_recWord hapart hword, State.packedWord, unpackWord_packWord hend,
    toNat_unpackWord hlen, pow_zero, Nat.div_one, State.bitLen_eq]

/-- Settles O28: the two words written, bit by bit. -/
theorem bfpackChangesOnlyTheField : Obligations.BfpackChangesOnlyTheField := by
  intro s t hpack hok hfits pos len ra ma
  obtain ⟨⟨⟨-, hapart⟩, -, -, hword⟩, rfl⟩ := of_exec_bfpack_ok hpack hok
  have hrecWord : s.packed.wordAt ra = packWord pos len (s.wordAt ra) s.arg2 := by
    rw [show ra = s.recWordAddr from rfl, State.packed_recWord hapart hword, State.packedWord, State.bitPos_eq,
      State.bitLen_eq]
  have hmaskWord : s.packed.wordAt ma = packMask pos len (s.wordAt ma) := by
    rw [show ma = s.maskWordAddr from rfl, State.packed_maskWord, State.packedMask, State.bitPos_eq, State.bitLen_eq]
  refine ⟨s.packed_lmemSameOutsideTwo, fun j hj => ⟨fun hout => ⟨?_, ?_⟩, fun hin => ?_⟩⟩
  · rw [hrecWord, getLsbD_packWord_outside _ hfits hj hout]
  · rw [hmaskWord, getLsbD_packMask _ _ _ hj, decide_eq_false hout, Bool.or_false]
  · rw [hmaskWord, getLsbD_packMask _ _ _ hj, decide_eq_true hin, Bool.or_true]

end Sys2Proof.Machine
end

section
/-! PROOFS. AES-128 and CBC (42_aes_cbc.md): each step of the inverse cipher undoes its step of the cipher (R176,
R177), so the rounds undo each other from the last to the first, and the blocks of CBC from the first to the last
(R180 to R183). -/

namespace Sys2Proof.Machine

/-! ## Field arithmetic (42_aes_cbc.md R172) -/

/-- The reduction is folded in where bit 7 of one of the two is set, and twice where both are. -/
theorem xtime_xor (a b : Byte) : xtime (a ^^^ b) = xtime a ^^^ xtime b := by
  have hreduce : (if (a ^^^ b).getLsbD 7 then 0x1B else 0x00 : Byte) =
      (if a.getLsbD 7 then 0x1B else 0x00) ^^^ (if b.getLsbD 7 then 0x1B else 0x00) := by
    rw [BitVec.getLsbD_xor]
    cases a.getLsbD 7 <;> cases b.getLsbD 7 <;> decide
  rw [xtime, xtime, xtime, hreduce, BitVec.shiftLeft_xor_distrib]
  ac_rfl

theorem gmul_two (a : Byte) : gmul a 2 = xtime a := by simp [gmul, gmulLoop]

theorem gmul_three (a : Byte) : gmul a 3 = a ^^^ xtime a := by simp [gmul, gmulLoop]

theorem gmul_nine (a : Byte) : gmul a 9 = a ^^^ xtime (xtime (xtime a)) := by simp [gmul, gmulLoop]

theorem gmul_eleven (a : Byte) : gmul a 11 = a ^^^ xtime a ^^^ xtime (xtime (xtime a)) := by
  simp [gmul, gmulLoop]

theorem gmul_thirteen (a : Byte) : gmul a 13 = a ^^^ xtime (xtime a) ^^^ xtime (xtime (xtime a)) := by
  simp [gmul, gmulLoop]

theorem gmul_fourteen (a : Byte) : gmul a 14 = xtime a ^^^ xtime (xtime a) ^^^ xtime (xtime (xtime a)) := by
  simp [gmul, gmulLoop]

theorem byte_xor_left_comm (a b c : Byte) : a ^^^ (b ^^^ c) = b ^^^ (a ^^^ c) := by ac_rfl

/-! ## Columns (42_aes_cbc.md R176, R177)

The rows of both column matrices are one row rotated. `MixColumns` done twice adds to each byte four times its sum
with the byte two rows away; done twice more that cancels, and `InvMixColumns` is the three that are missing. -/

/-- A column function whose four rows are one row, rotated. -/
def circulant (row : Byte → Byte → Byte → Byte → Byte) (a0 a1 a2 a3 : Byte) : Bytes :=
  [row a0 a1 a2 a3, row a1 a2 a3 a0, row a2 a3 a0 a1, row a3 a0 a1 a2]

/-- The first row of `MixColumns`. -/
def mixRow (a b c d : Byte) : Byte := gmul a 2 ^^^ gmul b 3 ^^^ c ^^^ d

/-- The first row of `InvMixColumns`. -/
def invMixRow (a b c d : Byte) : Byte := gmul a 14 ^^^ gmul b 11 ^^^ gmul c 13 ^^^ gmul d 9

/-- The first row of `MixColumns` done twice. -/
def mixTwiceRow (a _b c _d : Byte) : Byte := a ^^^ xtime (xtime (a ^^^ c))

theorem mixColumn_eq_circulant : mixColumn = circulant mixRow := by
  funext a0 a1 a2 a3
  simp only [mixColumn, circulant, mixRow, BitVec.xor_assoc, BitVec.xor_comm, byte_xor_left_comm]

theorem invMixColumn_eq_circulant : invMixColumn = circulant invMixRow := by
  funext a0 a1 a2 a3
  simp only [invMixColumn, circulant, invMixRow, BitVec.xor_assoc, BitVec.xor_comm, byte_xor_left_comm]

theorem mixRow_mixRow (a b c d : Byte) :
    mixRow (mixRow a b c d) (mixRow b c d a) (mixRow c d a b) (mixRow d a b c) = mixTwiceRow a b c d := by
  simp only [mixRow, mixTwiceRow, gmul_two, gmul_three, xtime_xor]
  simp only [BitVec.xor_assoc, BitVec.xor_comm, byte_xor_left_comm, xor_cancel_left]

theorem mixRow_mixTwiceRow (a b c d : Byte) :
    mixRow (mixTwiceRow a b c d) (mixTwiceRow b c d a) (mixTwiceRow c d a b) (mixTwiceRow d a b c) =
      invMixRow a b c d := by
  simp only [mixRow, mixTwiceRow, invMixRow, gmul_two, gmul_three, gmul_nine, gmul_eleven, gmul_thirteen,
    gmul_fourteen, xtime_xor]
  simp only [BitVec.xor_assoc, BitVec.xor_comm, byte_xor_left_comm, xor_cancel_left]

theorem mixTwiceRow_mixTwiceRow (a b c d : Byte) :
    mixTwiceRow (mixTwiceRow a b c d) (mixTwiceRow b c d a) (mixTwiceRow c d a b) (mixTwiceRow d a b c) = a := by
  simp only [mixTwiceRow, xtime_xor]
  simp only [BitVec.xor_assoc, BitVec.xor_comm, byte_xor_left_comm, BitVec.xor_self, BitVec.xor_zero]

/-- Two circulant column functions, one after the other. -/
theorem onColumns_circulant_comp {f g h : Byte → Byte → Byte → Byte → Byte}
    (hrow : ∀ a b c d, g (f a b c d) (f b c d a) (f c d a b) (f d a b c) = h a b c d) (s : Bytes) :
    onColumns (circulant g) (onColumns (circulant f) s) = onColumns (circulant h) s := by
  simp [onColumns, circulant, stAt, hrow, List.range_succ]

theorem map_stAt_range {s : Bytes} (hs : s.length = 16) : (List.range 16).map (stAt s) = s :=
  List.ext_getElem (by simp [hs]) fun i _ hi => by simp [stAt, hi]

/-- The column function that keeps each byte. -/
theorem onColumns_circulant_id {s : Bytes} (hs : s.length = 16) :
    onColumns (circulant fun a _ _ _ => a) s = s := map_stAt_range hs

/-- `MixColumns` done twice. -/
def mixColumnsTwice (s : Bytes) : Bytes := onColumns (circulant mixTwiceRow) s

theorem mixColumns_eq (s : Bytes) : mixColumns s = onColumns (circulant mixRow) s := by
  rw [mixColumns, mixColumn_eq_circulant]

theorem invMixColumns_eq (s : Bytes) : invMixColumns s = onColumns (circulant invMixRow) s := by
  rw [invMixColumns, invMixColumn_eq_circulant]

theorem length_mixColumns (s : Bytes) : (mixColumns s).length = 16 := rfl

theorem mixColumns_mixColumns (s : Bytes) : mixColumns (mixColumns s) = mixColumnsTwice s := by
  rw [mixColumns_eq, mixColumns_eq, onColumns_circulant_comp mixRow_mixRow, mixColumnsTwice]

theorem mixColumns_mixColumnsTwice (s : Bytes) : mixColumns (mixColumnsTwice s) = invMixColumns s := by
  rw [mixColumns_eq, mixColumnsTwice, onColumns_circulant_comp mixRow_mixTwiceRow, invMixColumns_eq]

theorem mixColumnsTwice_mixColumnsTwice {s : Bytes} (hs : s.length = 16) :
    mixColumnsTwice (mixColumnsTwice s) = s := by
  rw [mixColumnsTwice, mixColumnsTwice, onColumns_circulant_comp mixTwiceRow_mixTwiceRow, onColumns_circulant_id hs]

theorem invMixColumns_mixColumns {s : Bytes} (hs : s.length = 16) : invMixColumns (mixColumns s) = s := by
  calc invMixColumns (mixColumns s)
    _ = mixColumns (mixColumns (mixColumns (mixColumns s))) := by
      rw [← mixColumns_mixColumnsTwice, ← mixColumns_mixColumns]
    _ = mixColumnsTwice (mixColumnsTwice s) := by rw [mixColumns_mixColumns, mixColumns_mixColumns]
    _ = s := mixColumnsTwice_mixColumnsTwice hs

theorem mixColumns_invMixColumns {s : Bytes} (hs : s.length = 16) : mixColumns (invMixColumns s) = s := by
  rw [← mixColumns_mixColumnsTwice, mixColumns_mixColumns, mixColumnsTwice_mixColumnsTwice hs]

/-! ## Bytes and rows of a cipher state (42_aes_cbc.md R173, R174, R176, R177) -/

theorem invSbox_sbox : ∀ a : Byte, invSbox (sbox a) = a := by decide

theorem sbox_invSbox : ∀ a : Byte, sbox (invSbox a) = a := by decide

theorem invSubBytes_subBytes (s : Bytes) : invSubBytes (subBytes s) = s := by
  simp [subBytes, invSubBytes, Function.comp_def, invSbox_sbox]

theorem subBytes_invSubBytes (s : Bytes) : subBytes (invSubBytes s) = s := by
  simp [subBytes, invSubBytes, Function.comp_def, sbox_invSbox]

/-- The two rotations of a row meet at the byte where they started. -/
theorem invShiftRows_shiftRows {s : Bytes} (hs : s.length = 16) : invShiftRows (shiftRows s) = s :=
  map_stAt_range hs

theorem shiftRows_invShiftRows {s : Bytes} (hs : s.length = 16) : shiftRows (invShiftRows s) = s :=
  map_stAt_range hs

/-- What a round does before the columns are mixed (R176). -/
def subShift (s : Bytes) : Bytes := shiftRows (subBytes s)

/-- What a round of the inverse cipher does before the round key is added (R177). -/
def invSubShift (s : Bytes) : Bytes := invSubBytes (invShiftRows s)

theorem length_subShift (s : Bytes) : (subShift s).length = 16 := by simp [subShift, shiftRows]

theorem length_invSubShift (s : Bytes) : (invSubShift s).length = 16 := by
  simp [invSubShift, invSubBytes, invShiftRows]

theorem invSubShift_subShift {s : Bytes} (hs : s.length = 16) : invSubShift (subShift s) = s := by
  have hlen : (subBytes s).length = 16 := by rw [subBytes, List.length_map, hs]
  rw [invSubShift, subShift, invShiftRows_shiftRows hlen, invSubBytes_subBytes]

theorem subShift_invSubShift {s : Bytes} (hs : s.length = 16) : subShift (invSubShift s) = s := by
  rw [invSubShift, subShift, subBytes_invSubBytes, shiftRows_invShiftRows hs]

/-! ## Rounds -/

theorem length_xorBytes_of_eq {a b : Bytes} {n : Nat} (ha : a.length = n) (hb : b.length = n) :
    (xorBytes a b).length = n := by rw [length_xorBytes, ha, hb, min_self]

/-- A byte string added twice. -/
theorem xorBytes_xorBytes {a b : Bytes} (h : a.length = b.length) : xorBytes (xorBytes a b) b = a :=
  List.ext_getElem (by simp [h]) fun i _ _ => by simp [xorBytes]

theorem encRound_eq (s rk : Bytes) : encRound s rk = xorBytes (mixColumns (subShift s)) rk := rfl

theorem decRound_eq (s rk : Bytes) : decRound s rk = invMixColumns (xorBytes (invSubShift s) rk) := rfl

section
variable {rk : Bytes} (hrk : rk.length = 16) (s : Bytes)
include hrk

/-- A round of the inverse cipher takes the round key and the mixing of a round away, and leaves the part before
them to the next. -/
theorem decRound_encRound : decRound (subShift (encRound s rk)) rk = subShift s := by
  have hlen : (encRound s rk).length = 16 := length_xorBytes_of_eq (length_mixColumns _) hrk
  rw [decRound_eq, invSubShift_subShift hlen, encRound_eq, xorBytes_xorBytes ((length_mixColumns _).trans hrk.symm),
    invMixColumns_mixColumns (length_subShift s)]

theorem encRound_decRound : encRound (invSubShift (decRound s rk)) rk = invSubShift s := by
  have hlen : (decRound s rk).length = 16 := rfl
  have hsum : (xorBytes (invSubShift s) rk).length = 16 := length_xorBytes_of_eq (length_invSubShift s) hrk
  rw [encRound_eq, subShift_invSubShift hlen, decRound_eq, mixColumns_invMixColumns hsum,
    xorBytes_xorBytes ((length_invSubShift s).trans hrk.symm)]

end

/-- Steps that undo each other one by one, up to `mid`, undo each other in the reverse order. -/
theorem foldl_reverse_cancel {step back : Bytes → Bytes → Bytes} {mid : Bytes → Bytes} {rks : List Bytes}
    (hcancel : ∀ rk ∈ rks, ∀ s, back (mid (step s rk)) rk = mid s) (s : Bytes) :
    rks.reverse.foldl back (mid (rks.foldl step s)) = mid s := by
  induction rks generalizing s with
  | nil => rfl
  | cons rk rks ih =>
    obtain ⟨hhead, htail⟩ := List.forall_mem_cons.1 hcancel
    rw [List.foldl_cons, List.reverse_cons, List.foldl_append, ih htail]
    exact hhead s

/-! ## The cipher under eleven round keys -/

theorem encBlockWith_eq (rks : List Bytes) (x : Bytes) : encBlockWith rks x =
    xorBytes (subShift (((rks.drop 1).take 9).foldl encRound (xorBytes x (rks.getD 0 [])))) (rks.getD 10 []) := rfl

theorem decBlockWith_eq (rks : List Bytes) (x : Bytes) : decBlockWith rks x =
    xorBytes (invSubShift (((rks.drop 1).take 9).reverse.foldl decRound (xorBytes x (rks.getD 10 []))))
      (rks.getD 0 []) := rfl

theorem getD_mem {α : Type} {l : List α} {i : Nat} (hi : i < l.length) (d : α) : l.getD i d ∈ l := by
  rw [List.getD_eq_getElem l d hi]
  exact List.getElem_mem hi

section
variable {rks : List Bytes} (hcount : rks.length = 11) (hlen : ∀ rk ∈ rks, rk.length = 16)
include hcount hlen

theorem length_roundKey {r : Nat} (hr : r < 11) : (rks.getD r []).length = 16 :=
  hlen _ (getD_mem (hcount ▸ hr) [])

theorem length_encBlockWith (x : Bytes) : (encBlockWith rks x).length = 16 := by
  rw [encBlockWith_eq]
  exact length_xorBytes_of_eq (length_subShift _) (length_roundKey hcount hlen (by decide))

variable {x : Bytes} (hx : x.length = 16)
include hx

theorem decBlockWith_encBlockWith : decBlockWith rks (encBlockWith rks x) = x := by
  have hfirst := length_roundKey hcount hlen (r := 0) (by decide)
  have hlast := length_roundKey hcount hlen (r := 10) (by decide)
  have hrounds := foldl_reverse_cancel (rks := (rks.drop 1).take 9) (mid := subShift) fun rk hrk =>
    decRound_encRound (hlen rk (List.mem_of_mem_drop (List.mem_of_mem_take hrk)))
  rw [decBlockWith_eq, encBlockWith_eq, xorBytes_xorBytes ((length_subShift _).trans hlast.symm), hrounds,
    invSubShift_subShift (length_xorBytes_of_eq hx hfirst), xorBytes_xorBytes (hx.trans hfirst.symm)]

theorem encBlockWith_decBlockWith : encBlockWith rks (decBlockWith rks x) = x := by
  have hfirst := length_roundKey hcount hlen (r := 0) (by decide)
  have hlast := length_roundKey hcount hlen (r := 10) (by decide)
  have hrounds := foldl_reverse_cancel (rks := ((rks.drop 1).take 9).reverse) (mid := invSubShift) fun rk hrk =>
    encRound_decRound (hlen rk (List.mem_of_mem_drop (List.mem_of_mem_take (List.mem_reverse.1 hrk))))
  rw [List.reverse_reverse] at hrounds
  rw [decBlockWith_eq, encBlockWith_eq, xorBytes_xorBytes ((length_invSubShift _).trans hfirst.symm), hrounds,
    subShift_invSubShift (length_xorBytes_of_eq hx hlast), xorBytes_xorBytes (hx.trans hlast.symm)]

end

/-! ## Key expansion (42_aes_cbc.md R175) -/

theorem length_scheduleWords (k : Bytes) (m : Nat) : (scheduleWords k m).length = m + 4 := by
  induction m with
  | zero => rfl
  | succ m ih => rw [scheduleWords, List.length_append, ih]; rfl

theorem length_scheduleTemp {prev : Bytes} (h : prev.length = 4) (j : Nat) :
    (scheduleTemp prev j).length = 4 := by
  rw [scheduleTemp]
  split
  · rfl
  · exact h

theorem length_roundKeys (k : Bytes) : (roundKeys k).length = 11 := rfl

section
variable {k : Bytes} (hk : k.length = 16)
include hk

theorem length_of_mem_scheduleWords (m : Nat) : ∀ w ∈ scheduleWords k m, w.length = 4 := by
  induction m with
  | zero => simp [scheduleWords, hk]
  | succ m ih =>
    have hword {i : Nat} (hi : i < m + 4) : ((scheduleWords k m).getD i []).length = 4 :=
      ih _ (getD_mem (by rwa [length_scheduleWords]) [])
    refine List.forall_mem_append.2 ⟨ih, List.forall_mem_singleton.2 ?_⟩
    exact length_xorBytes_of_eq (hword (by omega)) (length_scheduleTemp (hword (by omega)) _)

theorem length_of_mem_roundKeys : ∀ rk ∈ roundKeys k, rk.length = 16 := by
  have hword {i : Nat} (hi : i < 44) : ((scheduleWords k 40).getD i []).length = 4 :=
    length_of_mem_scheduleWords hk 40 _ (getD_mem (by rwa [length_scheduleWords]) [])
  refine List.forall_mem_map.2 fun r hr => ?_
  have hr : r < 11 := List.mem_range.1 hr
  simp only [List.length_append]
  rw [hword (by omega), hword (by omega), hword (by omega), hword (by omega)]

/-! ## The block cipher (42_aes_cbc.md R176, R177) -/

theorem length_aesEncBlock (x : Bytes) : (aesEncBlock k x).length = 16 :=
  length_encBlockWith (length_roundKeys k) (length_of_mem_roundKeys hk) x

variable {x : Bytes} (hx : x.length = 16)
include hx

theorem aesDecBlock_aesEncBlock : aesDecBlock k (aesEncBlock k x) = x :=
  decBlockWith_encBlockWith (length_roundKeys k) (length_of_mem_roundKeys hk) hx

theorem aesEncBlock_aesDecBlock : aesEncBlock k (aesDecBlock k x) = x :=
  encBlockWith_decBlockWith (length_roundKeys k) (length_of_mem_roundKeys hk) hx

end

/-! ## The loops of CBC (42_aes_cbc.md R180, R182) -/

section
variable {k : Bytes} (hk : k.length = 16)
include hk

theorem length_cbcEncBlocks (m : Nat) (prev p : Bytes) : (cbcEncBlocks k m prev p).length = 16 * m := by
  induction m generalizing prev p with
  | zero => rfl
  | succ m ih => rw [cbcEncBlocks, List.length_append, length_aesEncBlock hk, ih]; omega

/-- The first ciphertext blocks depend on the first plaintext blocks only. -/
theorem take_cbcEncBlocks {j m : Nat} (hj : j ≤ m) (prev p : Bytes) :
    (cbcEncBlocks k m prev p).take (16 * j) = cbcEncBlocks k j prev (p.take (16 * j)) := by
  induction j generalizing m prev p with
  | zero => simp [cbcEncBlocks]
  | succ j ih =>
    obtain ⟨m, rfl⟩ := Nat.exists_eq_add_of_le' (Nat.one_le_of_lt hj)
    have hsplit : 16 * (j + 1) = 16 + 16 * j := by omega
    have htake : (p.take (16 + 16 * j)).take 16 = p.take 16 := by rw [List.take_take, min_eq_left (by omega)]
    have hdrop : (p.take (16 + 16 * j)).drop 16 = (p.drop 16).take (16 * j) := by
      rw [List.drop_take, Nat.add_sub_cancel_left]
    have hblock := length_aesEncBlock hk (xorBytes (p.take 16) prev)
    rw [hsplit, cbcEncBlocks, cbcEncBlocks, htake, hdrop, ← ih (Nat.le_of_succ_le_succ hj), List.take_append,
      List.take_of_length_le (by omega), hblock, Nat.add_sub_cancel_left]

/-- Each decrypted block has the same block before it taken away that was added. -/
theorem cbcDecBlocks_cbcEncBlocks {m : Nat} {prev p : Bytes} (hprev : prev.length = 16) (hp : p.length = 16 * m) :
    cbcDecBlocks k m prev (cbcEncBlocks k m prev p) = p := by
  induction m generalizing prev p with
  | zero => exact (List.length_eq_zero_iff.1 hp).symm
  | succ m ih =>
    have hfirst : (p.take 16).length = 16 := by rw [List.length_take]; omega
    have hrest : (p.drop 16).length = 16 * m := by rw [List.length_drop]; omega
    have hsum : (xorBytes (p.take 16) prev).length = 16 := length_xorBytes_of_eq hfirst hprev
    have hblock := length_aesEncBlock hk (xorBytes (p.take 16) prev)
    rw [cbcEncBlocks, cbcDecBlocks, List.take_left' hblock, List.drop_left' hblock, ih hblock hrest,
      aesDecBlock_aesEncBlock hk hsum, xorBytes_xorBytes (hfirst.trans hprev.symm), List.take_append_drop]

/-! ## CBC with zero padding (42_aes_cbc.md R180 to R183) -/

theorem length_cbcEnc (p : Bytes) : (cbcEnc k p).length = paddedLength p.length := by
  rw [cbcEnc, length_cbcEncBlocks hk, length_zeroPad, paddedLength, Nat.mul_div_cancel_left _ (by decide)]

theorem cbcDecRaw_cbcEnc (p : Bytes) : cbcDecRaw k (cbcEnc k p) = zeroPad p := by
  have hblocks : (zeroPad p).length = 16 * ((zeroPad p).length / 16) := by
    rw [length_zeroPad, paddedLength, Nat.mul_div_cancel_left _ (by decide)]
  rw [cbcDecRaw, length_cbcEnc hk, ← length_zeroPad, cbcEnc]
  exact cbcDecBlocks_cbcEncBlocks hk (length_zeros _) hblocks

end

/-- Padding leaves the whole blocks of the plaintext as they are. -/
theorem take_zeroPad {p : Bytes} {n : Nat} (h : n ≤ p.length) : (zeroPad p).take n = p.take n :=
  List.take_append_of_le_length h

theorem take_cbcEnc {k p : Bytes} {j : Nat} (hk : k.length = 16) (h : 16 * j ≤ p.length) :
    (cbcEnc k p).take (16 * j) = cbcEncBlocks k j cbcIv (p.take (16 * j)) := by
  have hj : j ≤ (zeroPad p).length / 16 := by rw [length_zeroPad, paddedLength]; omega
  rw [cbcEnc, take_cbcEncBlocks hk hj, take_zeroPad h]

theorem nulTrunc_append {p : Bytes} (hp : ∀ x ∈ p, x ≠ 0) (q : Bytes) : nulTrunc (p ++ q) = p ++ nulTrunc q :=
  List.takeWhile_append_of_pos fun x hx => bne_iff_ne.2 (hp x hx)

theorem nulTrunc_zero_cons (q : Bytes) : nulTrunc (0 :: q) = [] := rfl

theorem nulTrunc_zeros (n : Nat) : nulTrunc (zeros n) = [] := by cases n <;> rfl

/-! ## The statements about the ciphers -/

/-- Settles O29: the rounds undo each other from the last to the first (`foldl_reverse_cancel`). -/
theorem aesBlockCiphersAreInverse : Obligations.AesBlockCiphersAreInverse :=
  fun _ _ hk hx => ⟨aesDecBlock_aesEncBlock hk hx, aesEncBlock_aesDecBlock hk hx⟩

/-- Settles O30: the padded plaintext comes back, and is cut at its first zero byte. -/
theorem cbcRoundTrip : Obligations.CbcRoundTrip := by
  intro k p q hk hp
  constructor
  · rw [cbcDec, cbcDecRaw_cbcEnc hk, zeroPad, nulTrunc_append hp, nulTrunc_zeros, List.append_nil]
  · rw [cbcDec, cbcDecRaw_cbcEnc hk, zeroPad, List.append_assoc, nulTrunc_append hp, List.cons_append,
      nulTrunc_zero_cons, List.append_nil]

/-- Settles O31: the first `j` ciphertext blocks are those of the first `j` plaintext blocks. -/
theorem equalPrefixesShow : Obligations.EqualPrefixesShow := by
  intro k p q j hk hp hq heq
  rw [take_cbcEnc hk hp, take_cbcEnc hk hq, heq]

end Sys2Proof.Machine
end

section
/-! PROOFS. The commands of the AES unit (42_aes_cbc.md R184 to R186): their checks, and the one write of each. -/

namespace Sys2Proof.Machine

/-! ## The checks (42_aes_cbc.md R185, R186) -/

/-- Checks (2) to (4) of an AES command with a key in LMEM, which report `ERR_ADDR`. -/
def State.aesAddrChecks (s : State) (outLen : Nat) : List Check := s.aesRangeChecks outLen ++ [s.keyInRange]

section
variable {s : State}

theorem State.aesRangeChecks_pass_iff {n : Nat} : (∀ x ∈ s.aesRangeChecks n, x.1 = true) ↔
    s.arg0.toNat + s.arg1.toNat ≤ s.params.lmemSize ∧ s.arg2.toNat + n ≤ s.params.lmemSize := by
  simp [State.aesRangeChecks]

theorem State.aesRangeChecks_code (n : Nat) : ∀ x ∈ s.aesRangeChecks n, x.2 = .errAddr := by
  simp [State.aesRangeChecks]

theorem State.aesAddrChecks_pass_iff {n : Nat} : (∀ x ∈ s.aesAddrChecks n, x.1 = true) ↔
    (s.arg0.toNat + s.arg1.toNat ≤ s.params.lmemSize ∧ s.arg2.toNat + n ≤ s.params.lmemSize) ∧
      s.arg3.toNat + 16 ≤ s.params.lmemSize := by
  rw [State.aesAddrChecks, List.forall_mem_append, State.aesRangeChecks_pass_iff, List.forall_mem_singleton,
    State.keyInRange, State.inRange_eq_true]

theorem State.aesAddrChecks_code (n : Nat) : ∀ x ∈ s.aesAddrChecks n, x.2 = .errAddr :=
  List.forall_mem_append.2 ⟨State.aesRangeChecks_code n, List.forall_mem_singleton.2 rfl⟩

theorem State.wholeBlocks_eq_true : s.wholeBlocks = true ↔ s.arg1.toNat % 16 = 0 := decide_eq_true_iff

end

/-! ## The commands by their checks -/

section
variable {s : State}

/-- `AESENC` reports `ERR_ADDR` only. -/
theorem exec_aesenc_of_badAddrs (h : ¬ ∀ x ∈ s.aesAddrChecks (paddedLength s.arg1.toNat), x.1 = true) :
    exec .aesenc s = .next (s.errorCompletion .errAddr) :=
  State.checked_of_fail _ (firstFailure_of_common_code (State.aesAddrChecks_code _) h)

theorem exec_aesenc_of_pass (h : ∀ x ∈ s.aesAddrChecks (paddedLength s.arg1.toNat), x.1 = true) :
    exec .aesenc s = .next (s.encryptWith s.lmemKey) := State.checked_of_pass _ h

theorem exec_aesencS_of_badAddrs (h : ¬ ∀ x ∈ s.aesRangeChecks (paddedLength s.arg1.toNat), x.1 = true) :
    exec .aesencS s = .next (s.errorCompletion .errAddr) :=
  State.checked_append_of_first_fails (State.aesRangeChecks_code _) h

theorem exec_aesencS_of_noSecret (h : ∀ x ∈ s.aesRangeChecks (paddedLength s.arg1.toNat), x.1 = true)
    (hnone : s.ecdh.ssValid = false) : exec .aesencS s = .next (s.errorCompletion .errCryptoNoSession) :=
  State.checked_append_of_second_fails h (List.forall_mem_singleton.2 rfl) (by simp [State.secretHeld, hnone])

theorem exec_aesencS_of_pass (h : ∀ x ∈ s.aesRangeChecks (paddedLength s.arg1.toNat), x.1 = true)
    (hheld : s.ecdh.ssValid = true) : exec .aesencS s = .next (s.encryptWith s.secretKey).discardSession :=
  State.checked_of_pass _ (List.forall_mem_append.2 ⟨h, List.forall_mem_singleton.2 hheld⟩)

theorem exec_aesdec_eq (s : State) : exec .aesdec s =
    s.checked (s.aesAddrChecks s.arg1.toNat ++ [(s.wholeBlocks, .errCryptoLen)])
      (.next (s.decryptWith s.lmemKey)) := rfl

theorem exec_aesdec_of_badAddrs (h : ¬ ∀ x ∈ s.aesAddrChecks s.arg1.toNat, x.1 = true) :
    exec .aesdec s = .next (s.errorCompletion .errAddr) := by
  rw [exec_aesdec_eq]
  exact State.checked_append_of_first_fails (State.aesAddrChecks_code _) h

theorem exec_aesdec_of_badLength (h : ∀ x ∈ s.aesAddrChecks s.arg1.toNat, x.1 = true)
    (hlen : s.arg1.toNat % 16 ≠ 0) : exec .aesdec s = .next (s.errorCompletion .errCryptoLen) := by
  rw [exec_aesdec_eq]
  exact State.checked_append_of_second_fails h (List.forall_mem_singleton.2 rfl)
    (by rw [List.forall_mem_singleton, State.wholeBlocks_eq_true]; exact hlen)

theorem exec_aesdec_of_pass (h : ∀ x ∈ s.aesAddrChecks s.arg1.toNat, x.1 = true)
    (hlen : s.arg1.toNat % 16 = 0) : exec .aesdec s = .next (s.decryptWith s.lmemKey) := by
  rw [exec_aesdec_eq]
  exact State.checked_of_pass _
    (List.forall_mem_append.2 ⟨h, List.forall_mem_singleton.2 (State.wholeBlocks_eq_true.2 hlen)⟩)

theorem exec_aesdecS_of_badAddrs (h : ¬ ∀ x ∈ s.aesRangeChecks s.arg1.toNat, x.1 = true) :
    exec .aesdecS s = .next (s.errorCompletion .errAddr) :=
  State.checked_append_of_first_fails (State.aesRangeChecks_code _) h

theorem exec_aesdecS_of_noSecret (h : ∀ x ∈ s.aesRangeChecks s.arg1.toNat, x.1 = true)
    (hnone : s.ecdh.ssValid = false) : exec .aesdecS s = .next (s.errorCompletion .errCryptoNoSession) :=
  State.checked_append_of_second_fails h (List.forall_mem_singleton.2 rfl) (by simp [State.secretHeld, hnone])

/-- With ranges and secret in order only the length is left to check, inside the success case. -/
theorem exec_aesdecS_of_secret (h : ∀ x ∈ s.aesRangeChecks s.arg1.toNat, x.1 = true)
    (hheld : s.ecdh.ssValid = true) : exec .aesdecS s =
      .next (if s.wholeBlocks then (s.decryptWith s.secretKey).discardSession
        else (s.errorCompletion .errCryptoLen).discardSession) :=
  State.checked_of_pass _ (List.forall_mem_append.2 ⟨h, List.forall_mem_singleton.2 hheld⟩)

theorem exec_aesdecS_of_badLength (h : ∀ x ∈ s.aesRangeChecks s.arg1.toNat, x.1 = true)
    (hheld : s.ecdh.ssValid = true) (hlen : s.arg1.toNat % 16 ≠ 0) :
    exec .aesdecS s = .next (s.errorCompletion .errCryptoLen).discardSession := by
  rw [exec_aesdecS_of_secret h hheld, if_neg (mt State.wholeBlocks_eq_true.1 hlen)]

theorem exec_aesdecS_of_pass (h : ∀ x ∈ s.aesRangeChecks s.arg1.toNat, x.1 = true)
    (hheld : s.ecdh.ssValid = true) (hlen : s.arg1.toNat % 16 = 0) :
    exec .aesdecS s = .next (s.decryptWith s.secretKey).discardSession := by
  rw [exec_aesdecS_of_secret h hheld, if_pos (State.wholeBlocks_eq_true.2 hlen)]

end

/-! ## What the success cases write -/

/-- Outside the range of one write every byte reads as before. -/
theorem State.lmemSameOutside_memWrite (s : State) (a : Nat) (bs : Bytes) :
    LmemSameOutside s (s.memWrite a bs) a bs.length := fun c hc => by rw [State.byteAt_memWrite, if_neg hc]

theorem paddedLength_eq (n : Nat) : paddedLength n = (n + 15) / 16 * 16 := Nat.mul_comm _ _

section
variable {s : State} {k : Bytes}

theorem State.encryptWith_res0 : (s.encryptWith k).res0.toNat = (s.arg1.toNat + 15) / 16 * 16 % 2 ^ 32 := by
  rw [State.encryptWith, State.completeOk_res0, BitVec.toNat_ofNat, paddedLength_eq]

/-- The ciphertext under a 16-byte key fills the padded length. -/
theorem State.length_ciphertext (hk : k.length = 16) :
    (cbcEnc k s.sourceBytes).length = (s.arg1.toNat + 15) / 16 * 16 := by
  rw [length_cbcEnc hk, s.length_sourceBytes, paddedLength_eq]

theorem State.encryptWith_memRead (hk : k.length = 16) :
    (s.encryptWith k).memRead s.arg2.toNat ((s.arg1.toNat + 15) / 16 * 16) = cbcEnc k s.sourceBytes := by
  rw [State.encryptWith, State.memRead_completeOk, ← State.length_ciphertext hk, State.memRead_memWrite_same]

theorem State.encryptWith_lmemSameOutside (hk : k.length = 16) :
    LmemSameOutside s (s.encryptWith k) s.arg2.toNat ((s.arg1.toNat + 15) / 16 * 16) := by
  rw [← State.length_ciphertext hk]
  exact s.lmemSameOutside_memWrite _ _

theorem State.length_plaintext_le : (cbcDec k s.sourceBytes).length ≤ s.arg1.toNat :=
  (length_cbcDec_le k s.sourceBytes).trans_eq s.length_sourceBytes

theorem State.decryptWith_res0 : (s.decryptWith k).res0.toNat = (cbcDec k s.sourceBytes).length :=
  Nat.mod_eq_of_lt (State.length_plaintext_le.trans_lt s.arg1.isLt)

theorem State.decryptWith_memRead :
    (s.decryptWith k).memRead s.arg2.toNat (cbcDec k s.sourceBytes).length = cbcDec k s.sourceBytes := by
  rw [State.decryptWith, State.memRead_completeOk, State.memRead_memWrite_same]

theorem State.decryptWith_lmemSameOutside :
    LmemSameOutside s (s.decryptWith k) s.arg2.toNat (cbcDec k s.sourceBytes).length :=
  s.lmemSameOutside_memWrite _ _

end

/-! ## The statements about the commands -/

/-- Settles O32: one write of the padded length, under either key. -/
theorem aesencEncryptsTheRange : Obligations.AesencEncryptsTheRange := by
  intro s n m hsrc hdst
  have hout : s.arg2.toNat + paddedLength n ≤ s.params.lmemSize := by rwa [paddedLength_eq]
  constructor
  · intro hkey
    have hk : s.lmemKey.length = 16 := s.length_memRead _ _
    exact ⟨s.encryptWith s.lmemKey, exec_aesenc_of_pass (State.aesAddrChecks_pass_iff.2 ⟨⟨hsrc, hout⟩, hkey⟩),
      rfl, rfl, State.encryptWith_res0, rfl, State.encryptWith_memRead hk, State.encryptWith_lmemSameOutside hk⟩
  · intro hheld hsecret
    have hk : s.secretKey.length = 16 := by rw [State.secretKey, List.length_take, hsecret]; rfl
    refine ⟨(s.encryptWith s.secretKey).discardSession,
      exec_aesencS_of_pass (State.aesRangeChecks_pass_iff.2 ⟨hsrc, hout⟩) hheld,
      rfl, rfl, State.encryptWith_res0 (k := s.secretKey), rfl, ?_, State.encryptWith_lmemSameOutside hk⟩
    rw [State.memRead_discardSession]
    exact State.encryptWith_memRead hk

/-- Settles O33: one write of the truncated plaintext, under either key. -/
theorem aesdecDecryptsAndTruncates : Obligations.AesdecDecryptsAndTruncates := by
  intro s hsrc hdst hlen
  constructor
  · intro hkey p
    exact ⟨s.decryptWith s.lmemKey,
      exec_aesdec_of_pass (State.aesAddrChecks_pass_iff.2 ⟨⟨hsrc, hdst⟩, hkey⟩) hlen,
      rfl, rfl, State.decryptWith_res0, rfl, State.length_plaintext_le, State.decryptWith_memRead,
      State.decryptWith_lmemSameOutside⟩
  · intro hheld p
    refine ⟨(s.decryptWith s.secretKey).discardSession,
      exec_aesdecS_of_pass (State.aesRangeChecks_pass_iff.2 ⟨hsrc, hdst⟩) hheld hlen,
      rfl, rfl, State.decryptWith_res0, rfl, State.length_plaintext_le, ?_, State.decryptWith_lmemSameOutside⟩
    rw [State.memRead_discardSession]
    exact State.decryptWith_memRead

/-- Settles O34: each command by the first group of its checks that fails. -/
theorem aesChecksInOrder : Obligations.AesChecksInOrder := by
  intro s n m srcOut encOut decOut keyOut
  have henc : (∀ x ∈ s.aesRangeChecks (paddedLength n), x.1 = true) ↔ ¬ (srcOut ∨ encOut) := by
    rw [State.aesRangeChecks_pass_iff, paddedLength_eq, not_or, not_lt, not_lt]
  have hdec : (∀ x ∈ s.aesRangeChecks n, x.1 = true) ↔ ¬ (srcOut ∨ decOut) := by
    rw [State.aesRangeChecks_pass_iff, not_or, not_lt, not_lt]
  have hencKey : (∀ x ∈ s.aesAddrChecks (paddedLength n), x.1 = true) ↔ ¬ (srcOut ∨ encOut ∨ keyOut) := by
    rw [State.aesAddrChecks_pass_iff, paddedLength_eq, not_or, not_or, not_lt, not_lt, not_lt, and_assoc]
  have hdecKey : (∀ x ∈ s.aesAddrChecks n, x.1 = true) ↔ ¬ (srcOut ∨ decOut ∨ keyOut) := by
    rw [State.aesAddrChecks_pass_iff, not_or, not_or, not_lt, not_lt, not_lt, and_assoc]
  exact ⟨fun h => exec_aesenc_of_badAddrs fun hpass => hencKey.1 hpass h,
    fun h => exec_aesencS_of_badAddrs fun hpass => henc.1 hpass h,
    fun h hnone => exec_aesencS_of_noSecret (henc.2 h) hnone,
    fun h => exec_aesdec_of_badAddrs fun hpass => hdecKey.1 hpass h,
    fun h hlen => exec_aesdec_of_badLength (hdecKey.2 h) hlen,
    fun h => exec_aesdecS_of_badAddrs fun hpass => hdec.1 hpass h,
    fun h hnone => exec_aesdecS_of_noSecret (hdec.2 h) hnone,
    fun h hheld hlen => exec_aesdecS_of_badLength (hdec.2 h) hheld hlen⟩

end Sys2Proof.Machine
end

section
/-! PROOFS. The commands of the ECDH unit that use and end a key pair (43_ecdh_p256.md R207, R213, R214): what a
valid peer key is, `ECDHDERIVE` by its checks, and what its success writes. -/

namespace Sys2Proof.Machine

/-! ## Peer keys (43_ecdh_p256.md R207) -/

/-- The curve equation with powers, as R203 writes it. -/
theorem onCurve_iff (x y : Nat) : onCurve x y = true ↔ y ^ 2 % p256P = (x ^ 3 + p256A * x + p256B) % p256P := by
  rw [onCurve, decide_eq_true_iff, ← pow_two, ← pow_three']

/-- A reduced coordinate, as the statement bounds it. -/
theorem lt_p256P_iff (x : Nat) : x < p256P ↔ x ≤ p256P - 1 := (Nat.le_sub_one_iff_lt (by decide)).symm

theorem validPeer_iff (b : Bytes) : validPeer b = true ↔
    b.length = 64 ∧ (decodePoint b).1 < p256P ∧ (decodePoint b).2 < p256P ∧
      onCurve (decodePoint b).1 (decodePoint b).2 = true := by
  simp only [validPeer, Bool.and_eq_true, decide_eq_true_iff, and_assoc]

/-- Settles O35: the three clauses of R207, with the bounds and the curve equation in the statement's form. -/
theorem peerKeyValidity : Obligations.PeerKeyValidity := by
  intro b
  rw [validPeer_iff, onCurve_iff, lt_p256P_iff, lt_p256P_iff]
  rfl

/-! ## `ECDHDISCARD` (43_ecdh_p256.md R214) -/

/-- Settles O38: the command makes no check, and its effect beside the completion is `DiscardSession` of R215. -/
theorem ecdhdiscardEmptiesTheSession : Obligations.EcdhdiscardEmptiesTheSession := ⟨rfl, fun _ => rfl⟩

/-! ## `ECDHDERIVE` by its checks (43_ecdh_p256.md R213) -/

/-- *Keyed* (R213): a key pair is held, and no secret yet. -/
def State.keyed (s : State) : Bool := s.ecdh.keyValid && !s.ecdh.ssValid

section
variable {s : State}

theorem State.keyed_iff : s.keyed = true ↔ s.ecdh.keyValid = true ∧ s.ecdh.ssValid = false := by
  rw [State.keyed, Bool.and_eq_true, Bool.not_eq_true']

/-- The two range checks are those the AES commands make, here with an output of 32 bytes. -/
theorem State.ecdhderiveChecks_eq (s : State) :
    s.ecdhderiveChecks = [(s.keyed, .errState)] ++ s.aesRangeChecks 32 := rfl

theorem exec_ecdhderive_of_not_keyed (h : ¬ s.keyed = true) :
    exec .ecdhderive s = .next (s.errorCompletion .errState) :=
  State.checked_append_of_first_fails (xs := [(s.keyed, .errState)]) (List.forall_mem_singleton.2 rfl)
    (mt List.forall_mem_singleton.1 h)

theorem exec_ecdhderive_of_badRange (hkeyed : s.keyed = true) (h : ¬ ∀ x ∈ s.aesRangeChecks 32, x.1 = true) :
    exec .ecdhderive s = .next (s.errorCompletion .errAddr) :=
  State.checked_append_of_second_fails (xs := [(s.keyed, .errState)]) (List.forall_mem_singleton.2 hkeyed)
    (State.aesRangeChecks_code 32) h

/-- With the session keyed and the ranges in order only the peer key is left to check, inside the success case. -/
theorem exec_ecdhderive_of_ranges (hkeyed : s.keyed = true) (h : ∀ x ∈ s.aesRangeChecks 32, x.1 = true) :
    exec .ecdhderive s = .next (if validPeer s.sourceBytes then s.deriveWith s.sourceBytes
      else (s.errorCompletion .errCryptoPeerKey).discardSession) :=
  State.checked_of_pass _ (by
    rw [State.ecdhderiveChecks_eq]
    exact List.forall_mem_append.2 ⟨List.forall_mem_singleton.2 hkeyed, h⟩)

theorem exec_ecdhderive_of_badPeer (hkeyed : s.keyed = true) (h : ∀ x ∈ s.aesRangeChecks 32, x.1 = true)
    (hpeer : validPeer s.sourceBytes = false) :
    exec .ecdhderive s = .next (s.errorCompletion .errCryptoPeerKey).discardSession := by
  rw [exec_ecdhderive_of_ranges hkeyed h, hpeer, if_neg Bool.false_ne_true]

theorem exec_ecdhderive_of_pass (hkeyed : s.keyed = true) (h : ∀ x ∈ s.aesRangeChecks 32, x.1 = true)
    (hpeer : validPeer s.sourceBytes = true) :
    exec .ecdhderive s = .next (s.deriveWith s.sourceBytes) := by
  rw [exec_ecdhderive_of_ranges hkeyed h, if_pos hpeer]

end

/-! ## What the success of `ECDHDERIVE` writes (43_ecdh_p256.md R213) -/

/-- Both flags of `ECDH_STATUS` set (10_state.md R27). -/
theorem State.ecdhStatusWord_of_keyAndSecret {s : State} (hkey : s.ecdh.keyValid = true)
    (hss : s.ecdh.ssValid = true) : s.ecdhStatusWord = 3 := by
  simp [State.ecdhStatusWord, hkey, hss]

/-- `MemRead` of the bytes just written, with their number given apart (20_memory.md R61). -/
theorem State.memRead_memWrite_of_length (s : State) (a : Nat) {bs : Bytes} {n : Nat} (h : bs.length = n) :
    (s.memWrite a bs).memRead a n = bs := by
  subst h
  exact s.memRead_memWrite_same a bs

section
variable (s : State) (b : Bytes)

theorem State.deriveWith_ecdh : (s.deriveWith b).ecdh =
    { s.ecdh with ss := sharedSecret s.ecdh.d.toNat b, ssValid := true } := by
  rw [State.deriveWith, State.completeOk_ecdh, State.memWrite_ecdh]

theorem State.deriveWith_res0 : (s.deriveWith b).res0 = 32 := by rw [State.deriveWith, State.completeOk_res0]

theorem State.deriveWith_res1 : (s.deriveWith b).res1 = 0 := by rw [State.deriveWith, State.completeOk_res1]

/-- The key pair stays valid beside the secret. -/
theorem State.deriveWith_ecdhStatusWord (hkey : s.ecdh.keyValid = true) :
    (s.deriveWith b).ecdhStatusWord = 3 :=
  State.ecdhStatusWord_of_keyAndSecret (by rw [State.deriveWith_ecdh, hkey]) (by rw [State.deriveWith_ecdh])

theorem State.deriveWith_memRead :
    (s.deriveWith b).memRead s.arg2.toNat 32 = sharedSecret s.ecdh.d.toNat b := by
  rw [State.deriveWith, State.memRead_completeOk]
  exact State.memRead_memWrite_of_length _ _ (length_sharedSecret _ _)

theorem State.deriveWith_lmemSameOutside : LmemSameOutside s (s.deriveWith b) s.arg2.toNat 32 := by
  intro c hc
  rw [State.deriveWith, State.byteAt_completeOk, State.byteAt_memWrite, length_sharedSecret, if_neg hc]
  exact State.byteAt_congr rfl rfl c

/-- Session, results and LMEM are all that `ECDHDERIVE` changes. -/
theorem State.deriveWith_onlyChanges :
    OnlyResultsAndLmemChange { s with ecdh := (s.deriveWith b).ecdh } (s.deriveWith b) := by
  unfold State.deriveWith
  generalize sharedSecret s.ecdh.d.toNat b = z
  rfl

end

/-- Settles O37: the command by the first of its checks that fails, and the one write of its success. -/
theorem ecdhderiveSharesTheSecret : Obligations.EcdhderiveSharesTheSecret := by
  intro s keyed out b z
  have hkeyed : s.keyed = true ↔ keyed := State.keyed_iff
  have hranges : (∀ x ∈ s.aesRangeChecks 32, x.1 = true) ↔ ¬ out := by
    rw [State.aesRangeChecks_pass_iff, not_or, not_lt, not_lt]
  refine ⟨fun h => exec_ecdhderive_of_not_keyed (mt hkeyed.1 h),
    fun h hout => exec_ecdhderive_of_badRange (hkeyed.2 h) fun hpass => hranges.1 hpass hout,
    fun h hin hpeer => exec_ecdhderive_of_badPeer (hkeyed.2 h) (hranges.2 hin) hpeer, ?_⟩
  intro h hin hpeer
  have hkey : s.ecdh.keyValid = true := h.left
  exact ⟨s.deriveWith b, exec_ecdhderive_of_pass (hkeyed.2 h) (hranges.2 hin) hpeer, s.deriveWith_ecdh b,
    s.deriveWith_ecdhStatusWord b hkey, s.deriveWith_memRead b, s.deriveWith_lmemSameOutside b,
    s.deriveWith_code b, s.deriveWith_res0 b, s.deriveWith_res1 b, s.deriveWith_onlyChanges b⟩

end Sys2Proof.Machine
end

section
/-! PROOFS. The secure channel (44_secure_channel.md): what a datagram does in each mode (R234 to R239), whichever of
its forms it comes in; what it leaves as it was (R233); and whose session and whose payload it touches (R244, R245). -/

namespace Sys2Proof.Machine

/-! ## The forms of a datagram (R233; log 10) -/

section
variable {s : State} {c : Cid} {d : Bytes}

theorem exec_datagram_of_fits {i : Instr} (hi : i ∈ [Instr.dgIn c d, .cipherDatagram c d])
    (hd : d.length ≤ 1024) : exec i s = .next (s.dgEvent c d) := by
  rw [List.mem_pair] at hi
  obtain rfl | rfl := hi
  · exact if_pos hd
  · exact if_pos hd

/-- Whatever form a datagram comes in, if it is taken then it is the event of the bytes of that form. -/
theorem exec_datagram_ensures {e : Bytes} {x y : Num256} {i : Instr} {P : State → Prop}
    (hi : i ∈ [Instr.dgIn c d, .helloDatagram c x y, .cipherDatagram c e]) (h : ∀ b, P (s.dgEvent c b)) :
    Result.Ensures (exec i s) P := by
  simp only [List.mem_cons, List.not_mem_nil, or_false] at hi
  obtain rfl | rfl | rfl := hi
  · exact .guarded fun _ => .next (h d)
  · exact .next (h _)
  · exact .guarded fun _ => .next (h e)

/-! ## A datagram in each mode (R234 to R239) -/

theorem State.decryptEvent_of_blocks (k : Bytes) (h : d.length % 16 = 0) :
    s.decryptEvent c k d = (s.emit (.payload c (cbcDec k d))).setLast .ok := if_pos h

theorem State.decryptEvent_of_partialBlock (k : Bytes) (h : d.length % 16 ≠ 0) :
    s.decryptEvent c k d = s.setLast .errCryptoLen := if_neg h

theorem State.dgEvent_of_off (hmode : s.sch.mode = .off) :
    s.dgEvent c d = (s.emit (.payload c d)).setLast .ok := by
  rw [State.dgEvent, hmode]

theorem State.dgEvent_of_psk (hmode : s.sch.mode = .psk) :
    s.dgEvent c d = s.decryptEvent c s.pskBytes d := by
  rw [State.dgEvent, hmode]

theorem State.dgEvent_of_session {k : Bytes} (hmode : s.sch.mode = .ecdh)
    (hsess : findSession s.sch.sess c = some k) :
    s.dgEvent c d = (s.removeSess c).decryptEvent c k d := by
  simp only [State.dgEvent, hmode, hsess]

theorem State.dgEvent_of_hello (hmode : s.sch.mode = .ecdh) (hnew : findSession s.sch.sess c = none)
    (hhello : d.take 4 = cskBytes) : s.dgEvent c d = s.helloEvent c (d.drop 4) := by
  simp only [State.dgEvent, hmode, hnew, isHello, beq_iff_eq, hhello, if_true]

theorem State.dgEvent_of_noHello (hmode : s.sch.mode = .ecdh) (hnew : findSession s.sch.sess c = none)
    (hhello : d.take 4 ≠ cskBytes) : s.dgEvent c d = s.setLast .errCryptoNoSession := by
  simp only [State.dgEvent, hmode, hnew, isHello, beq_iff_eq, if_neg hhello]

theorem State.helloEvent_of_badPeer {b : Bytes} (hpeer : validPeer b = false) :
    s.helloEvent c b = s.setLast .errCryptoPeerKey := by
  rw [State.helloEvent, hpeer]; rfl

theorem State.helloEvent_of_full {b : Bytes} (hpeer : validPeer b = true)
    (hfull : s.params.nsess ≤ s.sch.sess.length) : s.helloEvent c b = s.setLast .errCryptoFull := by
  have htable : s.tableFull = true := decide_eq_true hfull
  rw [State.helloEvent, hpeer, htable]; rfl

end

/-! ## What a datagram leaves as it was (R233) -/

/-- The two states differ at most in the session table, `LASTCODE`, the output trace and the draws. -/
def OnlyChannelChanges (s t : State) : Prop :=
  t = { s with sch := { s.sch with sess := t.sch.sess, last := t.sch.last },
               env := { s.env with out := t.env.out, draws := t.env.draws, freeCount := t.env.freeCount } }

theorem State.decryptEvent_onlyChannelChanges (s : State) (c : Cid) (k d : Bytes) :
    OnlyChannelChanges s (s.decryptEvent c k d) := by
  obtain ⟨-, heq⟩ | ⟨-, heq⟩ := s.decryptEvent_cases c k d <;> rw [heq] <;> rfl

theorem State.helloEvent_onlyChannelChanges (s : State) (c : Cid) (b : Bytes) :
    OnlyChannelChanges s (s.helloEvent c b) := by
  obtain ⟨-, heq⟩ | ⟨-, -, heq⟩ | ⟨-, -, heq⟩ := s.helloEvent_cases c b <;> rw [heq] <;> rfl

/-- A table entry removed first is within what the channel may change. -/
theorem OnlyChannelChanges.of_removeSess {s t : State} {c : Cid}
    (h : OnlyChannelChanges (s.removeSess c) t) : OnlyChannelChanges s t := h

theorem State.dgEvent_onlyChannelChanges (s : State) (c : Cid) (d : Bytes) :
    OnlyChannelChanges s (s.dgEvent c d) := by
  obtain ⟨-, heq⟩ | ⟨-, heq⟩ | ⟨k, -, -, heq⟩ | ⟨-, -, -, heq⟩ | ⟨-, -, -, heq⟩ :=
    s.dgEvent_cases c d <;> rw [heq]
  · rfl
  · exact s.decryptEvent_onlyChannelChanges c _ d
  · exact .of_removeSess ((s.removeSess c).decryptEvent_onlyChannelChanges c k d)
  · exact s.helloEvent_onlyChannelChanges c _
  · rfl

/-! ## Whose session, whose payload (R244, R245) -/

/-- From `s` to `t` only client `c`'s session may have changed, and a payload put out spent it: what R244 and R245
ask of a datagram of `c`. -/
def SpendsOnlyOwnSession (c : Cid) (s t : State) : Prop :=
  (∀ c', c' ≠ c → findSession t.sch.sess c' = findSession s.sch.sess c') ∧
  (∀ c' p, t.env.out = s.env.out ++ [.payload c' p] →
    c' = c ∧ findSession s.sch.sess c ≠ none ∧ findSession t.sch.sess c = none)

section
variable (s : State) {c : Cid}

/-- A refusal puts nothing out and keeps the table. -/
theorem State.setLast_spendsOnlyOwnSession (code : Code) : SpendsOnlyOwnSession c s (s.setLast code) :=
  ⟨fun _ _ => rfl, fun _ _ hout => by simp at hout⟩

/-- A reply to a hello is no payload, and the new entry is the client's own. -/
theorem State.acceptHello_spendsOnlyOwnSession (b : Bytes) (x : Nat) (hnew : findSession s.sch.sess c = none) :
    SpendsOnlyOwnSession c s (s.acceptHello c b x).afterDraw := by
  refine ⟨fun c' hne => ?_, fun _ _ hout => by simp [State.acceptHello] at hout⟩
  exact (findSession_insertSession s.sch.sess ⟨c, _⟩ c' hnew).trans (if_neg hne)

theorem State.helloEvent_spendsOnlyOwnSession (b : Bytes) (hnew : findSession s.sch.sess c = none) :
    SpendsOnlyOwnSession c s (s.helloEvent c b) := by
  obtain ⟨-, heq⟩ | ⟨-, -, heq⟩ | ⟨-, -, heq⟩ := s.helloEvent_cases c b <;> rw [heq]
  · exact s.setLast_spendsOnlyOwnSession _
  · exact s.setLast_spendsOnlyOwnSession _
  · exact s.acceptHello_spendsOnlyOwnSession b _ hnew

theorem State.findSession_removeSess_self (c : Cid) : findSession (s.removeSess c).sch.sess c = none :=
  (findSession_remove s.sch.sess c c).trans (if_pos rfl)

theorem State.findSession_removeSess_of_ne {c' : Cid} (h : c' ≠ c) :
    findSession (s.removeSess c).sch.sess c' = findSession s.sch.sess c' :=
  (findSession_remove s.sch.sess c c').trans (if_neg h)

theorem State.decryptEvent_sess (k d : Bytes) : (s.decryptEvent c k d).sch.sess = s.sch.sess := by
  obtain ⟨-, heq⟩ | ⟨-, heq⟩ := s.decryptEvent_cases c k d <;> rw [heq] <;> rfl

/-- Only a payload of the client that sent the datagram is put out. -/
theorem State.cid_of_decryptEvent_out {c' : Cid} {k d p : Bytes}
    (h : (s.decryptEvent c k d).env.out = s.env.out ++ [.payload c' p]) : c' = c := by
  obtain ⟨-, heq⟩ | ⟨-, heq⟩ := s.decryptEvent_cases c k d <;> rw [heq] at h
  · have hrec : Output.payload c (cbcDec k d) = .payload c' p :=
      List.singleton_inj.1 (List.append_cancel_left h)
    injection hrec with hcid
    exact hcid.symm
  · simp at h

/-- The entry is removed before the decryption, which keeps the table. -/
theorem State.spend_spendsOnlyOwnSession {k : Bytes} (d : Bytes) (hsess : findSession s.sch.sess c = some k) :
    SpendsOnlyOwnSession c s ((s.removeSess c).decryptEvent c k d) := by
  have htable := (s.removeSess c).decryptEvent_sess (c := c) k d
  refine ⟨fun c' hne => ?_, fun c' p hout => ⟨(s.removeSess c).cid_of_decryptEvent_out hout, ?_, ?_⟩⟩
  · rw [htable, s.findSession_removeSess_of_ne hne]
  · exact Option.ne_none_iff_exists'.2 ⟨k, hsess⟩
  · rw [htable, s.findSession_removeSess_self]

theorem State.dgEvent_spendsOnlyOwnSession (d : Bytes) (hmode : s.sch.mode = .ecdh) :
    SpendsOnlyOwnSession c s (s.dgEvent c d) := by
  cases hsess : findSession s.sch.sess c with
  | some k => rw [State.dgEvent_of_session hmode hsess]; exact s.spend_spendsOnlyOwnSession d hsess
  | none =>
    by_cases hhello : d.take 4 = cskBytes
    · rw [State.dgEvent_of_hello hmode hsess hhello]; exact s.helloEvent_spendsOnlyOwnSession _ hsess
    · rw [State.dgEvent_of_noHello hmode hsess hhello]; exact s.setLast_spendsOnlyOwnSession _

end

/-! ## The statements -/

/-- Settles O51: the table without the client's entry is the one a decryption under its key leaves. -/
theorem payloadSpendsTheSession : Obligations.PayloadSpendsTheSession := by
  intro s c k d hd hmode hsess
  refine ⟨(s.removeSess c).sch.sess, s.findSession_removeSess_self c,
    fun c' hne => s.findSession_removeSess_of_ne hne, fun hlen i hi => ?_, fun hlen i hi => ?_⟩
  · rw [exec_datagram_of_fits hi hd, State.dgEvent_of_session hmode hsess, State.decryptEvent_of_blocks k hlen]
    rfl
  · rw [exec_datagram_of_fits hi hd, State.dgEvent_of_session hmode hsess,
      State.decryptEvent_of_partialBlock k hlen]
    rfl

/-- Settles O52: what R244 and R245 ask holds of the datagram event, and each form is that event. -/
theorem sessionsAreSingleUseAndSeparate : Obligations.SessionsAreSingleUseAndSeparate :=
  fun s t _ _ _ _ _ _ hi hmode ht =>
    exec_datagram_ensures hi (fun b => s.dgEvent_spendsOnlyOwnSession b hmode) t ht

/-- Settles O53: the frame of the datagram event, whichever form it comes in. -/
theorem datagramEventsWriteOnlyTheChannel : Obligations.DatagramEventsWriteOnlyTheChannel :=
  fun s t c _ _ _ _ _ hi ht => exec_datagram_ensures hi (s.dgEvent_onlyChannelChanges c) t ht

/-- Settles O48: the two modes without a handshake. -/
theorem datagramWithoutHandshake : Obligations.DatagramWithoutHandshake := by
  intro s c d i hi hd
  rw [exec_datagram_of_fits hi hd]
  refine ⟨fun hmode => ?_, fun hmode hlen => ?_, fun hmode hlen => ?_⟩
  · rw [State.dgEvent_of_off hmode]; rfl
  · rw [State.dgEvent_of_psk hmode, State.decryptEvent_of_blocks _ hlen]; rfl
  · rw [State.dgEvent_of_psk hmode, State.decryptEvent_of_partialBlock _ hlen]; rfl

/-- Settles O50: the peer key first, then the room in the table; a datagram that is no hello apart from both. -/
theorem refusedDatagramsChangeOnlyLastcode : Obligations.RefusedDatagramsChangeOnlyLastcode := by
  intro s c d i hi hd hmode hnew
  rw [exec_datagram_of_fits hi hd]
  refine ⟨fun hhello hpeer => ?_, fun hhello hpeer hfull => ?_, fun hhello => ?_⟩
  · rw [State.dgEvent_of_hello hmode hnew hhello, State.helloEvent_of_badPeer hpeer]; rfl
  · rw [State.dgEvent_of_hello hmode hnew hhello, State.helloEvent_of_full hpeer hfull]; rfl
  · rw [State.dgEvent_of_noHello hmode hnew hhello]; rfl

/-- Settles O54: the command makes no check, and both fields of `SCH_STATUS` are at zero after it. -/
theorem schresetDropsEverySession : Obligations.SchresetDropsEverySession :=
  ⟨rfl, fun s => ⟨_, rfl, rfl,
    BitVec.eq_of_toNat_eq ((s.clearSess.setLast .ok).completeOk 0 0).toNat_schStatusWord⟩⟩

end Sys2Proof.Machine
end

section
/-! PROOFS. The transfer unit (45_frame_transfer.md): its commands by the kind of state they find (R270, R281), a
reply and a timeout in each state (R271 to R277), what these leave as it was (R271), and a whole transfer as the
chunks sent one by one (R284). -/

namespace Sys2Proof.Machine

/-! ## Waiting and resting states (45_frame_transfer.md R262) -/

theorem XferState.waiting_iff (st : XferState) :
    st.waiting = true ↔ st = .waitHdrAck ∨ st = .waitChunkAck ∨ st = .waitTrailerReply := by
  cases st <;> simp [XferState.waiting]

theorem XferState.resting_iff (st : XferState) :
    st.waiting = false ↔ st = .idle ∨ st = .done ∨ st = .failed := by
  cases st <;> simp [XferState.waiting]

/-! ## The number of data frames (46_system.md R305 (f)) -/

section
variable {a b : Nat} (hb : 1 ≤ b)
include hb

/-- Frame `j` is sent exactly if it begins inside the file. -/
theorem lt_ceilDiv_iff (j : Nat) : j < ceilDiv a b ↔ j * b < a := by
  rw [ceilDiv, ← Nat.add_one_le_iff, Nat.le_div_iff_mul_le hb, Nat.add_one_mul]
  omega

theorem le_ceilDiv_mul : a ≤ ceilDiv a b * b := not_lt.1 ((lt_ceilDiv_iff hb _).not.1 (lt_irrefl _))

theorem ceilDiv_mul_lt : ceilDiv a b * b < a + b := by
  have := Nat.div_mul_le_self (a + (b - 1)) b
  rw [ceilDiv]
  omega

theorem ceilDiv_le_self : ceilDiv a b ≤ a :=
  not_lt.1 ((lt_ceilDiv_iff hb a).not.2 (not_lt.2 (Nat.le_mul_of_pos_right a hb)))

end

/-! ## The commands (45_frame_transfer.md R270, R281) -/

section
variable {s : State}

theorem exec_xferstart_of_waiting (hw : s.xfer.state.waiting = true) :
    exec .xferstart s = .next (s.errorCompletion .errState) :=
  State.checked_of_fail _ (by simp [State.xferstartChecks, hw])

theorem exec_xferstart_of_badChunk (hw : s.xfer.state.waiting = false) (hchunk : s.chunkLegal = false) :
    exec .xferstart s = .next (s.errorCompletion .errArg) :=
  State.checked_of_fail _ (by simp [State.xferstartChecks, hw, hchunk])

theorem exec_xferstart_of_pass (hw : s.xfer.state.waiting = false) (hchunk : s.chunkLegal = true) :
    exec .xferstart s = .next s.xferBegin :=
  State.checked_of_pass _ (by simp [State.xferstartChecks, hw, hchunk])

/-- The number of frames fits `RES0`: it is at most the number of bytes. -/
theorem State.xferBegin_res0_toNat (hmin : 1 ≤ s.xfer.chunk.toNat) :
    s.xferBegin.res0.toNat = ceilDiv s.arg0.toNat s.xfer.chunk.toNat :=
  Nat.mod_eq_of_lt ((ceilDiv_le_self hmin).trans_lt s.arg0.isLt)

theorem exec_xferabort_of_waiting (hw : s.xfer.state.waiting = true) :
    exec .xferabort s = .next ((s.xferFail .aborted).completeOk 0 0) := by
  rw [exec, execXferabort, if_pos hw]

theorem exec_xferabort_of_resting (hw : s.xfer.state.waiting = false) :
    exec .xferabort s = .next { s with code := .ok, res0 := 0, res1 := 0,
                                       xfer := { s.xfer with err := .none, state := .idle } } := by
  rw [exec, execXferabort, if_neg (by simp [hw])]; rfl

/-! ## A timeout and a reply in each state (45_frame_transfer.md R271 to R277) -/

theorem exec_rxTimeout_of_waiting (hw : s.xfer.state.waiting = true) :
    exec .rxTimeout s = .next (s.xferFail .timeout) := by
  rw [exec, execRxTimeout, if_pos hw]

theorem exec_rxTimeout_of_resting (hw : s.xfer.state.waiting = false) : exec .rxTimeout s = .next s := by
  rw [exec, execRxTimeout, if_neg (by simp [hw])]

theorem exec_rxReply_of_fits {r : Bytes} (s : State) (h : r.length ≤ 66) :
    exec (.rxReply r) s = .next (s.rxEvent r) := if_pos h

theorem State.rxEvent_of_ok (hst : s.xfer.state = .waitHdrAck ∨ s.xfer.state = .waitChunkAck) :
    s.rxEvent okBytes = s.sendNext := by
  obtain hst | hst := hst
  · rw [State.rxEvent, hst]; rfl
  · rw [State.rxEvent, hst]; rfl

theorem State.rxEvent_of_badHdrAck {r : Bytes} (hst : s.xfer.state = .waitHdrAck) (hr : r ≠ okBytes) :
    s.rxEvent r = s.xferFail .error1 := by
  simp [State.rxEvent, hst, isOk, hr]

theorem State.rxEvent_of_badChunkAck {r : Bytes} (hst : s.xfer.state = .waitChunkAck) (hr : r ≠ okBytes) :
    s.rxEvent r = s.xferFail .error2 := by
  simp [State.rxEvent, hst, isOk, hr]

theorem State.rxEvent_of_badTrailerReply {r : Bytes} (hst : s.xfer.state = .waitTrailerReply)
    (hr : r.take 2 ≠ okBytes) : s.rxEvent r = s.xferFail .error3 := by
  simp [State.rxEvent, hst, startsOk, hr]

theorem State.rxEvent_of_resting (r : Bytes) (hw : s.xfer.state.waiting = false) : s.rxEvent r = s := by
  obtain hst | hst | hst := (XferState.resting_iff _).1 hw <;> rw [State.rxEvent, hst]

/-- Either form of the reply "OK" to the header or to a data frame is `SendNext` (R272, R273). -/
theorem exec_ok_of_ackAwaited {i : Instr} (hi : i ∈ [Instr.okReply, .rxReply okBytes])
    (hst : s.xfer.state = .waitHdrAck ∨ s.xfer.state = .waitChunkAck) : exec i s = .next s.sendNext := by
  rw [← State.rxEvent_of_ok hst]
  rw [List.mem_pair] at hi
  obtain rfl | rfl := hi
  · rfl
  · exact exec_rxReply_of_fits s (by decide)

theorem State.sendNext_of_more (h : s.xfer.off.toNat < s.xfer.size.toNat) : s.sendNext = s.sendChunk := if_pos h

theorem State.sendNext_of_end (h : s.xfer.off = s.xfer.size) : s.sendNext = s.sendTrailer :=
  if_neg (by rw [h]; exact lt_irrefl _)

end

/-! ## The next chunk (45_frame_transfer.md R276) -/

section
variable (s : State)

@[simp] theorem State.length_nextChunk : s.nextChunk.length = s.nextChunkLen := length_fileBytes _ _ _

theorem State.off_add_nextChunkLen_le (hoff : s.xfer.off.toNat ≤ s.xfer.size.toNat) :
    s.xfer.off.toNat + s.nextChunkLen ≤ s.xfer.size.toNat := by
  rw [State.nextChunkLen]; omega

/-- `XFER_OFF` never runs past `XFER_SIZE`, so the sum is not reduced. -/
theorem State.sendChunk_off_toNat (hoff : s.xfer.off.toNat ≤ s.xfer.size.toNat) :
    s.sendChunk.xfer.off.toNat = s.xfer.off.toNat + s.nextChunkLen :=
  Nat.mod_eq_of_lt ((s.off_add_nextChunkLen_le hoff).trans_lt s.xfer.size.isLt)

theorem State.sendChunk_off : s.sendChunk.xfer.off = s.xfer.off + BitVec.ofNat 32 s.nextChunkLen := by
  rw [State.sendChunk_xfer_off, BitVec.ofNat_add, BitVec.ofNat_toNat, BitVec.setWidth_eq]

/-- A presented file as long as `XFER_SIZE` says holds the whole chunk. -/
theorem State.nextChunk_eq (hoff : s.xfer.off.toNat ≤ s.xfer.size.toNat)
    (hfile : s.xfer.size.toNat ≤ s.env.file.length) :
    s.nextChunk = (s.env.file.drop s.xfer.off.toNat).take s.nextChunkLen :=
  s.fileBytes_inside _ _ ((s.off_add_nextChunkLen_le hoff).trans hfile)

end

/-! ## What replies and timeouts leave as it was (45_frame_transfer.md R271) -/

/-- The two states differ at most in `XFER_STATUS`, `XFER_OFF`, `XFER_LAST`, the output trace and the count of free
values used. -/
def OnlyTransferChanges (s t : State) : Prop :=
  t = { s with xfer := { s.xfer with state := t.xfer.state, err := t.xfer.err, off := t.xfer.off,
                                     last := t.xfer.last },
               env := { s.env with out := t.env.out, freeCount := t.env.freeCount } }

section
variable (s : State)

theorem OnlyTransferChanges.refl : OnlyTransferChanges s s := rfl

theorem State.xferFail_onlyTransferChanges (e : XferErr) : OnlyTransferChanges s (s.xferFail e) := rfl

theorem State.sendChunk_onlyTransferChanges : OnlyTransferChanges s s.sendChunk := rfl

theorem State.sendTrailer_onlyTransferChanges : OnlyTransferChanges s s.sendTrailer := rfl

theorem State.sendNext_onlyTransferChanges : OnlyTransferChanges s s.sendNext := by
  obtain ⟨-, heq⟩ | ⟨-, heq⟩ := s.sendNext_cases <;> rw [heq]
  · exact s.sendChunk_onlyTransferChanges
  · exact s.sendTrailer_onlyTransferChanges

theorem State.rxEvent_onlyTransferChanges (r : Bytes) : OnlyTransferChanges s (s.rxEvent r) := by
  obtain ⟨-, -, heq⟩ | ⟨-, -, heq⟩ | ⟨-, -, heq⟩ | ⟨-, -, -, heq⟩ | ⟨-, -, -, heq⟩ | ⟨-, -, heq⟩ |
    ⟨-, heq⟩ := s.rxEvent_cases r <;> rw [heq]
  · exact s.sendNext_onlyTransferChanges
  · exact s.xferFail_onlyTransferChanges _
  · exact s.xferFail_onlyTransferChanges _
  · rfl
  · exact s.xferFail_onlyTransferChanges _
  · exact s.xferFail_onlyTransferChanges _
  · exact .refl s

end

section
variable {s t u : State}

theorem OnlyTransferChanges.trans (h : OnlyTransferChanges s t) (h' : OnlyTransferChanges t u) :
    OnlyTransferChanges s u := by
  unfold OnlyTransferChanges at *
  rw [h', h]

theorem OnlyTransferChanges.chunk (h : OnlyTransferChanges s t) : t.xfer.chunk = s.xfer.chunk :=
  congrArg (·.xfer.chunk) h

theorem OnlyTransferChanges.size (h : OnlyTransferChanges s t) : t.xfer.size = s.xfer.size :=
  congrArg (·.xfer.size) h

theorem OnlyTransferChanges.hash (h : OnlyTransferChanges s t) : t.xfer.hash = s.xfer.hash :=
  congrArg (·.xfer.hash) h

theorem OnlyTransferChanges.digest (h : OnlyTransferChanges s t) : t.digest = s.digest := by
  rw [State.digest, h.hash, State.digest]

theorem OnlyTransferChanges.file (h : OnlyTransferChanges s t) : t.env.file = s.env.file :=
  congrArg (·.env.file) h

end

/-! ## The file as chunks (45_frame_transfer.md R265) -/

/-- The chunks before chunk `n`, joined, are the file up to where chunk `n` begins. -/
theorem flatMap_fileChunk (file : Bytes) (cs n : Nat) :
    ((List.range n).flatMap fun j => fileChunk file cs j) = file.take (n * cs) := by
  induction n with
  | zero => simp
  | succ n ih =>
    rw [List.range_succ, List.flatMap_append, ih, List.flatMap_singleton, fileChunk, Nat.add_one_mul, List.take_add]

/-- The read of chunk `j` and the data frame that carries it (R276). -/
def chunkRecords (file : Bytes) (cs j : Nat) : List Output :=
  [.fileRead (j * cs) (fileChunk file cs j).length (fileChunk file cs j),
   .tx (dataFrameBytes (fileChunk file cs j))]

/-! ## Runs of several instructions -/

section
variable {s t : State}

theorem runInstrs_cons {i : Instr} (rest : List Instr) (h : exec i s = .next t) :
    runInstrs (i :: rest) s = runInstrs rest t := by
  rw [runInstrs, h]

theorem runInstrs_append {is : List Instr} (rest : List Instr) (h : runInstrs is s = .next t) :
    runInstrs (is ++ rest) s = runInstrs rest t := by
  induction is generalizing s with
  | nil => cases h; rfl
  | cons i is ih =>
    cases hi : exec i s with
    | next u =>
      rw [runInstrs_cons is hi] at h
      rw [List.cons_append, runInstrs_cons _ hi, ih h]
    | fault f => rw [runInstrs, hi] at h; cases h
    | refused e => rw [runInstrs, hi] at h; cases h

end

/-! ## A whole transfer (45_frame_transfer.md R284) -/

/-- `t` is `s`, which has just sent the header, after the first `j` chunks of the file have gone out. -/
structure State.ChunksSent (s : State) (j : Nat) (t : State) : Prop where
  frame : OnlyTransferChanges s t
  ackAwaited : t.xfer.state = .waitHdrAck ∨ t.xfer.state = .waitChunkAck
  err : t.xfer.err = s.xfer.err
  off : t.xfer.off.toNat = min (j * s.xfer.chunk.toNat) s.xfer.size.toNat
  out : t.env.out = s.env.out ++ (List.range j).flatMap (chunkRecords s.env.file s.xfer.chunk.toNat)

section
variable {s t : State} {j : Nat}

theorem State.ChunksSent.none (hst : s.xfer.state = .waitHdrAck) (hoff : s.xfer.off = 0) : s.ChunksSent 0 s where
  frame := .refl s
  ackAwaited := .inl hst
  err := rfl
  off := by simp [hoff]
  out := by simp

/-- While bytes remain, `XFER_OFF` is where the next chunk begins. -/
theorem State.ChunksSent.off_of_more (h : s.ChunksSent j t) (hmore : j * s.xfer.chunk.toNat < s.xfer.size.toNat) :
    t.xfer.off.toNat = j * s.xfer.chunk.toNat := h.off.trans (min_eq_left hmore.le)

theorem State.ChunksSent.off_lt_size (h : s.ChunksSent j t) (hmore : j * s.xfer.chunk.toNat < s.xfer.size.toNat) :
    t.xfer.off.toNat < t.xfer.size.toNat := by
  rw [h.off_of_more hmore, h.frame.size]; exact hmore

theorem State.ChunksSent.off_eq_size (h : s.ChunksSent j t) (hend : s.xfer.size.toNat ≤ j * s.xfer.chunk.toNat) :
    t.xfer.off = t.xfer.size :=
  BitVec.eq_of_toNat_eq (by rw [h.off, h.frame.size, min_eq_right hend])

section
variable (hfile : s.env.file.length = s.xfer.size.toNat)
include hfile

/-- The chunk that goes out next is the next one of the file; the last may be shorter than the others. -/
theorem State.ChunksSent.nextChunk (h : s.ChunksSent j t) (hmore : j * s.xfer.chunk.toNat < s.xfer.size.toNat) :
    t.nextChunk = fileChunk s.env.file s.xfer.chunk.toNat j := by
  have hlen : t.xfer.size.toNat - j * s.xfer.chunk.toNat =
      (s.env.file.drop (j * s.xfer.chunk.toNat)).length := by
    rw [List.length_drop, hfile, h.frame.size]
  rw [t.nextChunk_eq (h.off_lt_size hmore).le (by rw [h.frame.size, h.frame.file, hfile]), State.nextChunkLen,
    h.off_of_more hmore, h.frame.chunk, h.frame.file, hlen, ← List.take_eq_take_min, fileChunk]

theorem State.ChunksSent.succ (h : s.ChunksSent j t) (hmore : j * s.xfer.chunk.toNat < s.xfer.size.toNat) :
    s.ChunksSent (j + 1) t.sendChunk where
  frame := h.frame.trans t.sendChunk_onlyTransferChanges
  ackAwaited := .inr rfl
  err := h.err
  off := by
    rw [t.sendChunk_off_toNat (h.off_lt_size hmore).le, State.nextChunkLen, h.off_of_more hmore, h.frame.size,
      h.frame.chunk, Nat.add_one_mul]
    omega
  out := by
    rw [State.sendChunk_env_out, ← State.length_nextChunk, h.nextChunk hfile hmore, h.off_of_more hmore, h.out,
      List.range_succ, List.flatMap_append, List.flatMap_singleton, chunkRecords]
    simp

/-- One "OK" for each chunk begun inside the file sends these chunks. -/
theorem State.exists_chunksSent (hst : s.xfer.state = .waitHdrAck) (hoff : s.xfer.off = 0)
    (hmin : 1 ≤ s.xfer.chunk.toNat) (n : Nat) (hn : n ≤ ceilDiv s.xfer.size.toNat s.xfer.chunk.toNat) :
    ∃ t, runInstrs (List.replicate n .okReply) s = .next t ∧ s.ChunksSent n t := by
  induction n with
  | zero => exact ⟨s, rfl, .none hst hoff⟩
  | succ n ih =>
    obtain ⟨t, hrun, hsent⟩ := ih (by omega)
    have hmore := (lt_ceilDiv_iff hmin n).1 hn
    have hok := exec_ok_of_ackAwaited List.mem_cons_self hsent.ackAwaited
    rw [State.sendNext_of_more (hsent.off_lt_size hmore)] at hok
    refine ⟨t.sendChunk, ?_, hsent.succ hfile hmore⟩
    rw [List.replicate_succ', runInstrs_append _ hrun, runInstrs_cons _ hok, runInstrs]

end

/-- With every byte sent, one more "OK" and a trailer reply with the digest end the transfer (R274, R276). -/
theorem State.ChunksSent.runs_to_done {h : Bytes} (hsent : s.ChunksSent j t)
    (hend : s.xfer.size.toNat ≤ j * s.xfer.chunk.toNat) (hdigest : hexDecode32 h = some s.digest) :
    runInstrs [.okReply, .trailerReply h] t = .next t.sendTrailer.xferDone := by
  have hok := exec_ok_of_ackAwaited List.mem_cons_self hsent.ackAwaited
  rw [State.sendNext_of_end (hsent.off_eq_size hend)] at hok
  obtain ⟨hlen, -⟩ := (hexDecode32_eq_some_iff s.length_digest).1 hdigest
  have hdigest' : hexDecode32 h = some t.sendTrailer.digest := by
    rw [t.sendTrailer_onlyTransferChanges.digest, hsent.frame.digest, hdigest]
  have htrailer := exec_trailerReply (s := t.sendTrailer) rfl hlen.le
  rw [if_pos hdigest'] at htrailer
  rw [runInstrs_cons _ hok, runInstrs_cons _ htrailer, runInstrs]

end

/-! ## The statements -/

/-- Settles O39: the two checks in order, and the number of frames as a rounded quotient (`lt_ceilDiv_iff`). -/
theorem xferstartSendsTheHeader : Obligations.XferstartSendsTheHeader := by
  refine ⟨fun s hrest hmin hmax => ?_, fun s hwait => ?_, fun s hrest hchunk => ?_⟩
  · have hlegal := s.chunkLegal_eq_true.2 ⟨hmin, hmax⟩
    refine ⟨s.xferBegin, exec_xferstart_of_pass ((XferState.resting_iff _).2 hrest) hlegal, rfl, ?_, ?_⟩
    · rw [State.xferBegin_res0_toNat hmin]; exact le_ceilDiv_mul hmin
    · rw [State.xferBegin_res0_toNat hmin]; exact ceilDiv_mul_lt hmin
  · exact exec_xferstart_of_waiting ((XferState.waiting_iff _).2 hwait)
  · refine exec_xferstart_of_badChunk ((XferState.resting_iff _).2 hrest) (Bool.eq_false_iff.2 fun hlegal => ?_)
    obtain ⟨hmin, hmax⟩ := s.chunkLegal_eq_true.1 hlegal
    obtain hzero | hbig := hchunk
    · rw [hzero] at hmin; exact absurd hmin (by decide)
    · omega

/-- Settles O41: `SendNext` with bytes of the file left, the length field of its frame written out. -/
theorem okReplySendsTheNextChunk : Obligations.OkReplySendsTheNextChunk := by
  intro s hst _ _ hmore hfile n k
  have hok {i : Instr} (hi : i ∈ [Instr.okReply, .rxReply okBytes]) : exec i s = .next s.sendChunk := by
    rw [exec_ok_of_ackAwaited hi hst, State.sendNext_of_more hmore]
  have hk : s.nextChunk = k := s.nextChunk_eq hmore.le hfile
  have hlen : k.length = n := hk ▸ s.length_nextChunk
  refine ⟨s.sendChunk, hok (List.mem_pair.2 (.inl rfl)), hok (List.mem_pair.2 (.inr rfl)), ?_,
    s.sendChunk_off_toNat hmore.le, hlen, ?_, rfl⟩
  · exact congrArg (fun off => { s.xfer with off := off, last := BitVec.ofNat 32 n, state := .waitChunkAck })
      s.sendChunk_off
  · rw [State.sendChunk_env_out, hk, dataFrameBytes_eq, hlen, List.append_assoc]; rfl

/-- Settles O46: the header puts the unit in the state before the first chunk, each "OK" sends one chunk
(`State.exists_chunksSent`), and the last two replies end the transfer. -/
theorem wholeTransferSendsTheFile : Obligations.WholeTransferSendsTheFile := by
  intro s h hrest hmin hmax hfile hdigest cs nf
  have hstart := exec_xferstart_of_pass ((XferState.resting_iff _).2 hrest) (s.chunkLegal_eq_true.2 ⟨hmin, hmax⟩)
  obtain ⟨t, hrun, hsent⟩ := State.exists_chunksSent (s := s.xferBegin) hfile rfl rfl hmin nf le_rfl
  have hend : s.arg0.toNat ≤ nf * cs := le_ceilDiv_mul hmin
  have hdone := hsent.runs_to_done hend hdigest
  refine ⟨t.sendTrailer.xferDone, ?_, rfl, hsent.err, ?_, hsent.frame.size, ?_, ?_⟩
  · rw [runInstrs_cons _ hstart, List.replicate_succ', List.append_assoc, runInstrs_append _ hrun]
    exact hdone
  · exact (hsent.off_eq_size hend).trans hsent.frame.size
  · rw [State.xferDone_env_out, State.sendTrailer_env_out, hsent.out, State.xferBegin_env_out]
    simp only [List.append_assoc]
    rfl
  · rw [flatMap_fileChunk, List.take_of_length_le (hfile.trans_le hend)]

/-- Settles O47: every reply, in either form, is `rxEvent`, and a timeout fails the transfer or does nothing. -/
theorem replyEventsWriteOnlyTheTransferUnit : Obligations.ReplyEventsWriteOnlyTheTransferUnit := by
  intro s t r h i hi ht
  have hframe : Result.Ensures (exec i s) (OnlyTransferChanges s) := by
    simp only [List.mem_cons, List.not_mem_nil, or_false] at hi
    obtain rfl | rfl | rfl | rfl := hi
    · exact .guarded fun _ => .next (s.rxEvent_onlyTransferChanges r)
    · cases hw : s.xfer.state.waiting with
      | true => rw [exec_rxTimeout_of_waiting hw]; exact .next (s.xferFail_onlyTransferChanges _)
      | false => rw [exec_rxTimeout_of_resting hw]; exact .next (.refl s)
    · exact .next (s.rxEvent_onlyTransferChanges _)
    · exact .guarded fun _ => .next (s.rxEvent_onlyTransferChanges _)
  exact hframe t ht

/-- Settles O40: the command makes no check, and only asks whether a transfer is in flight. -/
theorem xferabortCancelsOrClears : Obligations.XferabortCancelsOrClears :=
  ⟨rfl, fun _ hwait => exec_xferabort_of_waiting ((XferState.waiting_iff _).2 hwait),
    fun _ hrest => exec_xferabort_of_resting ((XferState.resting_iff _).2 hrest)⟩

/-- Settles O42: `SendNext` with no byte of the file left. -/
theorem okReplyAtTheEndSendsTheTrailer : Obligations.OkReplyAtTheEndSendsTheTrailer := by
  intro s hst hend i hi
  rw [exec_ok_of_ackAwaited hi hst, State.sendNext_of_end hend]
  rfl

/-- Settles O43: the reply by the state that awaits it. -/
theorem wrongReplyFailsTheTransfer : Obligations.WrongReplyFailsTheTransfer := by
  intro s r hlen
  rw [exec_rxReply_of_fits s hlen]
  refine ⟨fun hst hr => ?_, fun hst hr => ?_, fun hst hr => ?_⟩
  · rw [State.rxEvent_of_badHdrAck hst hr]; rfl
  · rw [State.rxEvent_of_badChunkAck hst hr]; rfl
  · rw [State.rxEvent_of_badTrailerReply hst hr]; rfl

/-- Settles O45: a timeout asks only whether a transfer is in flight; at rest a reply is dropped too. -/
theorem timeoutFailsAndRestingStatesDrop : Obligations.TimeoutFailsAndRestingStatesDrop := by
  refine ⟨fun s hwait => exec_rxTimeout_of_waiting ((XferState.waiting_iff _).2 hwait), fun s r hrest => ?_⟩
  have hw := (XferState.resting_iff _).2 hrest
  refine ⟨exec_rxTimeout_of_resting hw, fun hlen => ?_⟩
  rw [exec_rxReply_of_fits s hlen, State.rxEvent_of_resting r hw]

end Sys2Proof.Machine
end

section
/-! PROOFS. The system commands (46_system.md R300, R301): `NOP`, and what `SRESET` puts back, unit by unit. -/

namespace Sys2Proof.Machine

/-! ## `NOP` (46_system.md R300) -/

/-- R91: of an opcode that takes no key, the word with `KSEL = 1` is illegal. -/
theorem decodeCommand_of_keyNotTaken {c : Word} {plain : Instr} (hreserved : c.extractLsb' 9 23 = 0)
    (hmap : opcodeMap (c.extractLsb' 0 8).toNat = some (plain, none)) (hksel : c.getLsbD 8 = true) :
    decodeCommand c = .error .kselNotAllowed := by
  rw [decodeCommand, if_neg (not_not_intro hreserved), hmap]
  exact if_pos hksel

/-- Settles O17: the command makes no check and only completes; its opcode takes no key. -/
theorem nopClearsResultsOnly : Obligations.NopClearsResultsOnly :=
  fun _ => ⟨rfl, rfl, decodeCommand_of_keyNotTaken (plain := .nop) (by decide) rfl rfl⟩

/-! ## What a unit at its reset values shows (70_reset_and_hazards.md R370) -/

section
variable {s : State}

theorem State.ecdhStatusWord_of_empty (h : s.ecdh = .empty) : s.ecdhStatusWord = 0 := by
  rw [State.ecdhStatusWord, h]; rfl

theorem State.xferStatusWord_of_reset (h : s.xfer = .reset) : s.xferStatusWord = 0 := by
  rw [State.xferStatusWord, h]; rfl

theorem State.digest_of_reset (h : s.xfer = .reset) : s.digest = zeros 32 := by
  rw [State.digest, h]; rfl

theorem State.schCtrlWord_of_reset (h : s.sch = .reset) : s.schCtrlWord = 0 := by
  rw [State.schCtrlWord, h]; rfl

theorem State.schStatusWord_of_reset (h : s.sch = .reset) : s.schStatusWord = 0 := by
  rw [State.schStatusWord, State.nactive, h]; rfl

theorem State.pskBytes_of_reset (h : s.sch = .reset) : s.pskBytes = zeros 16 := by
  rw [State.pskBytes, h]; rfl

end

/-! ## `SRESET` (46_system.md R301) -/

/-- The record that closes a transfer in flight, if there is one. -/
def State.closingRecords (s : State) : List Output := if s.xfer.state.waiting then [.txClose] else []

theorem State.closingRecords_eq (s : State) : s.closingRecords =
    if s.xfer.state = .waitHdrAck ∨ s.xfer.state = .waitChunkAck ∨ s.xfer.state = .waitTrailerReply
    then [.txClose] else [] :=
  if_congr (XferState.waiting_iff _) rfl rfl

/-- The reset state around the LMEM and the surroundings of `s`, the closing record put out. -/
def State.softReset (s : State) : State :=
  { State.resetWith s.params { s.env with out := s.env.out ++ s.closingRecords } with lmem := s.lmem }

/-- The completion adds nothing: the reset values of `STATUS`, `RES0` and `RES1` are those of `OK`. -/
theorem exec_sreset (s : State) : exec .sreset s = .next s.softReset := by
  rw [exec, execSreset, State.softReset, State.closingRecords]
  cases s.xfer.state.waiting with
  | true => rfl
  | false => rw [if_neg Bool.false_ne_true, if_neg Bool.false_ne_true, List.append_nil]; rfl

/-- Settles O18: `SRESET` gives `softReset`, where each unit is at its reset values; LMEM reads as before. -/
theorem sresetRestoresEverythingButLmem : Obligations.SresetRestoresEverythingButLmem := by
  intro s
  have hexec := exec_sreset s
  have hlmem : s.softReset.byteAt = s.byteAt := exec_byteAt (by decide) s _ hexec
  have hecdh : s.softReset.ecdh = .empty := rfl
  have hxfer : s.softReset.xfer = .reset := rfl
  have hsch : s.softReset.sch = .reset := rfl
  rw [← State.closingRecords_eq]
  exact ⟨s.softReset, hexec, congrFun hlmem, rfl, rfl, rfl, rfl, rfl, rfl, rfl, rfl, rfl, rfl, rfl, rfl, rfl, rfl,
    State.ecdhStatusWord_of_empty hecdh, rfl, rfl, State.xferStatusWord_of_reset hxfer, rfl, rfl, rfl,
    State.digest_of_reset hxfer, State.schCtrlWord_of_reset hsch, State.schStatusWord_of_reset hsch,
    State.pskBytes_of_reset hsch, rfl, rfl⟩

end Sys2Proof.Machine
end

section
/-! PROOFS. Error completions (60_exceptions.md R342, R343): a command that fails, and a word that is no command, only
report the error, but for the two errors that empty the ECDH session. -/

namespace Sys2Proof.Machine

/-! ## The errors of a command (60_exceptions.md R343) -/

/-- The two exceptions of R343: the errors that also empty the ECDH session. -/
abbrev DiscardsSession (i : Instr) (c : Code) : Prop :=
  (i = .ecdhderive ∧ c = .errCryptoPeerKey) ∨ (i = .aesdecS ∧ c = .errCryptoLen)

/-- The state command `i` leaves when it ends with the error code `c` (R343). -/
def State.errorEnd (s : State) (i : Instr) (c : Code) : State :=
  { s.errorCompletion c with ecdh := if DiscardsSession i c then EcdhSession.empty else s.ecdh }

/-- If `t` is an error end of command `i` begun in `s`, then it is the one R343 allows. -/
def State.ReportsErrors (s : State) (i : Instr) (t : State) : Prop := t.code ≠ .ok → t = s.errorEnd i t.code

section
variable {s t : State} {i : Instr} {c : Code}

theorem State.ReportsErrors.of_ok (h : t.code = .ok) : s.ReportsErrors i t := fun herr => absurd h herr

theorem State.errorCompletion_reportsErrors (h : ¬ DiscardsSession i c) :
    s.ReportsErrors i (s.errorCompletion c) := by
  intro _
  rw [State.errorCompletion_code, State.errorEnd, if_neg h]
  rfl

theorem State.errorCompletion_discardSession_reportsErrors (h : DiscardsSession i c) :
    s.ReportsErrors i (s.errorCompletion c).discardSession := by
  intro _
  rw [State.discardSession_code, State.errorCompletion_code, State.errorEnd, if_pos h]
  rfl

/-- A check only completes with its code, so a command behind checks is as R343 says if none of them has the code
that discards the session, and its success case is. -/
theorem State.checked_reportsErrors {checks : List Check} {success : Result}
    (hcodes : ∀ x ∈ checks, ¬ DiscardsSession i x.2) (hsuccess : success.Ensures (s.ReportsErrors i)) :
    (s.checked checks success).Ensures (s.ReportsErrors i) := by
  obtain ⟨c, hc, heq⟩ | ⟨-, heq⟩ := s.checked_cases checks success
  · obtain ⟨x, hx, rfl⟩ := List.mem_map.1 (firstFailure_mem hc)
    rw [heq]
    exact .next (State.errorCompletion_reportsErrors (hcodes x hx))
  · rw [heq]; exact hsuccess

end

/-- R343 for each command: five make no check, nine fail in their checks only, and two have an error of their own
behind the checks, the one that discards the session. -/
theorem exec_command_reportsErrors {i : Instr} (hi : i.isCommand = true) (s : State) :
    Result.Ensures (exec i s) (s.ReportsErrors i) := by
  cases i with
  | nop | ecdhdiscard | xferabort | schreset | sreset => exact .next (.of_ok rfl)
  | crc32 | bfpack | bfunpack | bfclear | aesenc | aesencS | aesdec | ecdhgen | xferstart =>
    exact s.checked_reportsErrors (fun _ _ => by simp) (.next (.of_ok rfl))
  | ecdhderive =>
    refine s.checked_reportsErrors (by simp [State.ecdhderiveChecks]) (.next ?_)
    split
    · exact .of_ok (s.deriveWith_code _)
    · exact State.errorCompletion_discardSession_reportsErrors (.inl ⟨rfl, rfl⟩)
  | aesdecS =>
    refine s.checked_reportsErrors (by simp [State.aesRangeChecks, State.secretHeld]) (.next ?_)
    split
    · exact .of_ok (s.decryptWith_code s.secretKey)
    · exact State.errorCompletion_discardSession_reportsErrors (.inr ⟨rfl, rfl⟩)
  | _ => cases hi

/-! ## Words that are no command (60_exceptions.md R342) -/

theorem runCommand_of_error {w : Word} {e : Reject} (h : decodeCommand w = .error e) (s : State) :
    runCommand w s = .next s.illegalCommand := by
  rw [runCommand, h]

/-- A word written to `CMD` runs as a command word (10_state.md R22). -/
theorem step_of_write_cmd {s : State} {w : Word} {rest : List Input}
    (h : s.env.inputs = .write32 s.params.base w :: rest) : step s = runCommand w s.popInput := by
  have hoff : s.popInput.busOffset s.params.base = 0 := s.popInput.busOffset_base
  have haccess : s.popInput.wordAccess s.params.base = true := by simp [hoff]
  rw [step_of_pending h, deliver, deliverWrite32, if_pos haccess, if_pos hoff]

/-! ## The statements -/

/-- `OK` is the code numbered 0, and the only one (60_exceptions.md R341). -/
theorem Code.byte_ne_zero : ∀ c : Code, c ≠ .ok → c.byte ≠ 0 := by
  intro c hc
  cases c with
  | ok => exact absurd rfl hc
  | _ => decide

/-- Settles O12: the commands one by one (`exec_command_reportsErrors`), and the word that is no command. -/
theorem errorCompletionHasNoOtherEffect : Obligations.ErrorCompletionHasNoOtherEffect :=
  ⟨fun _ s t hi hrun => exec_command_reportsErrors hi s t hrun, fun _ s _ h => runCommand_of_error h s, rfl,
    Code.byte_ne_zero⟩

/-- Settles O7: the write is taken off and runs the word, which is no command. -/
theorem illegalCommandOnlyReportsItself : Obligations.IllegalCommandOnlyReportsItself := by
  intro s w rest e hpending hdec
  refine ⟨?_, rfl⟩
  rw [step_of_write_cmd hpending, runCommand_of_error hdec, State.popInput_of_pending hpending]
  rfl

end Sys2Proof.Machine
end

section
/-! PROOFS. The hardware reset (70_reset_and_hazards.md R370 to R372): the values it leaves, and the step that takes
it. -/

namespace Sys2Proof.Machine

/-- Settles O9: each unit is at its reset values, and the rest is zero. -/
theorem resetValues : Obligations.ResetValues := by
  have hecdh : State.reset.ecdh = .empty := rfl
  have hxfer : State.reset.xfer = .reset := rfl
  have hsch : State.reset.sch = .reset := rfl
  exact ⟨rfl, rfl, rfl, rfl, rfl, rfl, rfl, rfl, rfl, rfl, State.ecdhStatusWord_of_empty hecdh, rfl, rfl, rfl, rfl,
    rfl, State.xferStatusWord_of_reset hxfer, rfl, rfl, rfl, State.digest_of_reset hxfer,
    State.schCtrlWord_of_reset hsch, State.schStatusWord_of_reset hsch, State.pskBytes_of_reset hsch, rfl, rfl⟩

theorem step_of_hwReset {s : State} {rest : List Input} (h : s.env.inputs = .hwReset :: rest) :
    step s = .next ({ s with env := { s.env with inputs := rest } }.hwReset) := by
  rw [step_of_pending h, State.popInput_of_pending h, deliver]

/-- After a hardware reset no byte of LMEM has been written (70_reset_and_hazards.md R372). -/
theorem State.byteAt_hwReset (s : State) (a : Nat) :
    s.hwReset.byteAt a = Config.lmemByte s.hwReset.env.lmemEpoch a := rfl

/-- Settles O19: the reset is taken off, and its state is that of R370 but for parameters and surroundings. -/
theorem hardwareResetEmitsNothing : Obligations.HardwareResetEmitsNothing :=
  fun _ _ h => ⟨_, step_of_hwReset h, rfl, rfl, rfl, State.byteAt_hwReset _⟩

end Sys2Proof.Machine
end
